-- ==== Sys2Proof/Word.lean ====
section
/-! DEFINITION. The plain types the whole model is written over, and their plainest arithmetic
(spec/00_scope.md 4.1, 4.2, 4.4). All quantities of the SG-840 are integers, products and sums are exact, and
counters saturate: so figures are `Nat` or `Int`, and only the part clock, which wraps, is a bit vector. -/

namespace Sys2Proof

/-- Characters of the order line, of hole tags and of mix tags. -/
abbrev Text := List Char

/-- A character as the serial line carries it: 8 data bits (10.1). -/
abbrev Byte := BitVec 8

/-- The part clock, 0 to 4,294,967,295, wrapping (R176). -/
abbrev Clock := BitVec 32

/-- Lines are numbered 0 to 7 (4.4). -/
abbrev LineId := Fin 8

/-- Gauges are numbered 0 to 11 (4.4). -/
abbrev GaugeId := Fin 12

/-- Envelopes are numbered 0 to 3 (4.4). -/
abbrev EnvelopeId := Fin 4

/-- Profile windows are numbered 0 to 15 (4.4). -/
abbrev WindowId := Fin 16

/-- Profile points are numbered 0 to 255 (4.4). -/
abbrev PointId := Fin 256

/-- A mix index. A mix that is held anywhere is 1 to 6; a higher index is a thicker mix (4.4, R89). -/
abbrev MixNo := Nat

/-- A hole tag (4.4). -/
abbrev Tag := Text

/-- "Clamped to a..b" for a signed quantity: a value below a becomes a, one above b becomes b (4.1). -/
def clampInt (lo hi v : Int) : Int := max lo (min hi v)

/-- "Saturating": a count that would pass its ceiling stays at the ceiling (4.1). -/
def satAdd (ceiling a b : Nat) : Nat := min ceiling (a + b)

/-- "Rounded to nearest, halves up": an exact half goes to the greater integer (4.1). -/
def roundDiv (a b : Nat) : Nat := (a + b / 2) / b

/-- The line numbers in increasing order. -/
def allLines : List LineId := [0, 1, 2, 3, 4, 5, 6, 7]

/-- The gauge numbers in increasing order. -/
def allGauges : List GaugeId := [0, 1, 2, 3, 4, 5, 6, 7, 8, 9, 10, 11]

end Sys2Proof
end

