-- ==== Sys2Proof/Syntax.lean ====
section
/-! DEFINITION. The commands of the SG-840: one constructor of `Instr` for each row of spec/opcode_table.json.
Three kinds of row become commands: the orders of the order line (chapter 10), with the fields their form gives; the
physical inputs (characters, loop, keys, currents and pulses); and the named events of the part. A named event that
comes about on a line sample carries that line and the sample's inputs, one on a gauge sample carries the gauge and its
current (notes/assumptions/1.md).
An order's numeric field is a `Nat`, since the order line takes any run of digits (R167). A word field is an `Option` or
an `OptWord`: a word that is not in its set is out of range (R167, R168), and is `none` or `.other` here. -/

namespace Sys2Proof

/-- The agitators A and B. -/
inductive AgitatorId where
  | tankA
  | tankB
deriving DecidableEq, Repr

/-- A word field that may be left out, such as REGROUT, RELEASE or FORCE. -/
inductive OptWord where
  /-- The field is left out. -/
  | absent
  /-- The field is the order's word. -/
  | given
  /-- The field is some other word, which is out of range (R167). -/
  | other
deriving DecidableEq, Repr

/-- A lockout key's positions (8.7). -/
inductive LockKey where
  | remote
  | locl
deriving DecidableEq, Repr

/-- The configuration key's positions (R169). -/
inductive ConfigKey where
  | run
  | enable
deriving DecidableEq, Repr

/-- The site-stop loop (8.6). -/
inductive Loop where
  | closed
  | opened
deriving DecidableEq, Repr

/-- The stage order rule, METHOD (R121). -/
inductive Method where
  | down
  | up
deriving DecidableEq, Repr

/-- The line settings whose value is a number (2.2, R140). -/
inductive LineNumber where
  | hose | pulse | cspan | pspan | seatp | gain | slew | rmax | crate | primet | washt | shutin | relp
  | drop | dfloor | surge | comm | pmargin
deriving DecidableEq, Repr

/-- The members of the set CHECKS (R140). -/
inductive CheckName where
  | drop | surge | overp | packer | comm
deriving DecidableEq, Repr

/-- The members of the set HOLDON (R140). -/
inductive HoldOnName where
  | switch | step | rate
deriving DecidableEq, Repr

/-- A line setting, by name. -/
inductive LineSetting where
  | number (f : LineNumber)
  | checks
  | holdon
deriving DecidableEq, Repr

/-- What SET Ln sets. The members of a set are in the order given; `none` is a value with a name that does not belong to the
set, and `unknown` a field that is no line setting: both are refused with RANGE, as is a name given twice (R140, R168,
R170). -/
inductive LineChange where
  | number (f : LineNumber) (value : Nat)
  | checks (members : Option (List CheckName))
  | holdon (members : Option (List HoldOnName))
  | unknown
deriving DecidableEq, Repr

/-- The settings of an agitator (R93). -/
inductive AgitatorSetting where
  | cap | low
deriving DecidableEq, Repr

/-- The plant settings of the plant coordinator (R93). -/
inductive PlantSetting where
  | dumpt | batcht | batchv | stagger
deriving DecidableEq, Repr

/-- The plant settings of the circulation unit (R161). -/
inductive CircSetting where
  | circi | circd
deriving DecidableEq, Repr

/-- What SET A, SET B or SET PLANT sets; a field that does not exist is `none` and out of range (R93, R170). -/
inductive PlantChange where
  | agitator (a : AgitatorId) (f : Option AgitatorSetting) (value : Nat)
  | plant (f : Option PlantSetting) (value : Nat)
deriving DecidableEq, Repr

/-- The settings of a gauge (R129). -/
inductive GaugeSetting where
  | on | span | warn | alarm | hyst
deriving DecidableEq, Repr

/-- A scope and a field of SET, as the read form names them (R170). -/
inductive SettingName where
  | line (n : LineId) (f : LineSetting)
  | agitator (a : AgitatorId) (f : AgitatorSetting)
  | plant (f : PlantSetting)
  | circ (f : CircSetting)
  | method
  | gauge (g : GaugeId) (f : GaugeSetting)
deriving DecidableEq, Repr

/-- The kinds of detection of the response table (R148). -/
inductive DetectionKind where
  | drop | surge | overp | packer | comm | sensor
deriving DecidableEq, Repr

/-- The actions of the response table (R148). -/
inductive Action where
  | report | pause | endStage | group | all
deriving DecidableEq, Repr

/-- The hold a POLL names (R174). -/
inductive HoldName where
  | line (n : LineId)
  | plant
deriving DecidableEq, Repr

/-- The eight fields of an envelope, in the order of R83. -/
structure Envelope where
  pmax : Nat
  vmax : Nat
  ginmax : Nat
  rflow : Nat
  rtime : Nat
  band : Nat
  tvol : Nat
  tpct : Nat
deriving DecidableEq, Repr

/-- The five fields of a mix, in the order of R89. -/
structure Mix where
  tag : Text
  wc : Nat
  density : Nat
  friction : Nat
  settime : Nat
deriving DecidableEq, Repr

/-- What a line's inputs carry on one sample event: the two currents in whole microamperes, and the flow-meter and stroke
pulses counted since the line's previous sample event (R1). -/
structure Sample where
  collar : Nat
  packer : Nat
  pulses : Nat
  strokes : Nat
deriving DecidableEq, Repr

/-- The physical positions read at power-on: the site-stop loop, the lines whose lockout key is at LOCAL, and the
configuration key (R153, R155, R169). -/
structure Switches where
  loop : Loop
  atLocal : List LineId
  config : ConfigKey
deriving DecidableEq, Repr

/-- The commands, one constructor for each row of spec/opcode_table.json, in the table's order. -/
inductive Instr where
  -- power and the serial line
  | powerOn (w : Switches)
  | characterReceived (c : Byte) (bad : Bool)
  | orderLineRefused
  | heldLineTaken
  -- engineer orders
  | setLine (n : Nat) (v : LineChange)
  | setAgitatorPlant (v : PlantChange)
  | setPlantMethod (m : Option Method)
  | setPlantCirc (f : CircSetting) (value : Nat)
  | setGauge (g : Nat) (f : Option GaugeSetting) (value : Nat)
  | setRead (w : Option SettingName)
  | mixdef (k : Nat) (m : Mix)
  | mixdefRead (k : Nat)
  | dropmix (k : Nat)
  | envdef (e : Nat) (r : Envelope)
  | envdefRead (e : Nat)
  | profile (w base count : Nat)
  | profileRead (w : Nat)
  | point (i target dwell : Nat)
  | pointRead (i : Nat)
  | response (kind : Option DetectionKind) (act : Option Action)
  | responseRead (kind : Option DetectionKind)
  | restart
  -- operator orders
  | status
  | line (n : Nat)
  | poll (h : Option HoldName)
  | take
  | clock (value : Option Nat)
  | prime (n : Nat) (a : Option AgitatorId)
  | seat (n : Nat) (hole : Tag) (stage : Nat) (regrout : OptWord)
  | inject (n e w m : Nat) (release : OptWord)
  | cancel (n : Nat)
  | pause (n : Nat)
  | resume (n : Nat)
  | endStage (n : Nat)
  | abort (n : Nat)
  | release (n : Nat) (force : OptWord)
  | mix (n k : Nat)
  | circulate (n : Nat)
  | wash (n : Nat)
  | tare (n : Nat)
  | stageAdd (hole : Tag) (stage top bottom : Nat) (gauges : List Nat)
  | stageDrop (hole : Tag) (stage : Nat)
  | stage (hole : Tag) (stage : Nat)
  | book (i : Option Nat)
  | map (hole : Tag)
  | holeClear (hole : Tag)
  | level (a : Option AgitatorId) (litres : Nat)
  | batch (a : Option AgitatorId) (k : Nat)
  | plant
  | gauge (g : Nat)
  | upliftClear (g : Nat)
  -- keys and loop
  | configurationKeyTurn (p : ConfigKey)
  | siteStopOpen
  | siteStopClose
  | keyToLocal (n : LineId)
  | keyToRemote (n : LineId)
  -- line sample events, and the named events that come about on one
  | lineSampleEvent (n : LineId) (x : Sample)
  | sensor (n : LineId) (x : Sample)
  | tareDone (n : LineId) (x : Sample)
  | primed (n : LineId) (x : Sample)
  | seated (n : LineId) (x : Sample)
  | seatFail (n : LineId) (x : Sample)
  | shutInEnd (n : LineId) (x : Sample)
  | decayed (n : LineId) (x : Sample)
  | decaySlow (n : LineId) (x : Sample)
  | released (n : LineId) (x : Sample)
  | deflateSlow (n : LineId) (x : Sample)
  | washed (n : LineId) (x : Sample)
  | profileStep (n : LineId) (x : Sample)
  | refusal (n : LineId) (x : Sample)
  | dropReferenceTaken (n : LineId) (x : Sample)
  | holdOffEnd (n : LineId) (x : Sample)
  | packerLow (n : LineId) (x : Sample)
  | fouled (n : LineId) (x : Sample)
  | circulationRunDue (n : LineId) (x : Sample)
  | circulationRunEnd (n : LineId) (x : Sample)
  -- gauge sample events
  | gaugeSampleEvent (g : GaugeId) (current : Nat)
  | gaugeFault (g : GaugeId) (current : Nat)
  | gaugeRestored (g : GaugeId) (current : Nat)
  -- the part clock and the plant
  | partClockSecond
  | switchover (n : LineId)
  | mixerTakesRequest
  | dumpEnd
  | batchDone
  | startGrant (a : AgitatorId)
deriving DecidableEq, Repr

end Sys2Proof
end

