-- ==== Sys2Proof/Config.lean ====
section
/-! DEFINITION. What the part fixes once and for all: the sizes of its stores and the ceilings of its counts. The spec
leaves no value of the SG-840 to the implementation and calls no result undefined; the one constant without a value stands for
a point on which two of its rules differ. -/

namespace Sys2Proof.Config

/-- Volumes saturate at 4,000,000,000 mL, and so does the stroke total (4.2, R12, R49). -/
def volumeCeiling : Nat := 4000000000

/-- Take per metre and intensity saturate at 65535 (4.2, R55, R56). -/
def figureCeiling : Nat := 65535

/-- The effective pressure is clamped to 0..12000 kPa (R54). -/
def pressureCeiling : Nat := 12000

/-- The flow is clamped to 0..2000 dL/min (R10). -/
def flowCeiling : Nat := 2000

/-- An input's fault count goes up to 30, where SENSOR is raised (R4). -/
def sensorFaults : Nat := 30

/-- A tare run takes 20 good samples (R14). -/
def tareSamples : Nat := 20

/-- The greatest tare offset, kPa (R15). -/
def tareLimit : Nat := 300

/-- Dwell and refusal counts saturate at 36000 samples (R58, R64). -/
def sampleCountCeiling : Nat := 36000

/-- The state timer is 0 to 1800 s, held here in samples of 100 ms (2.1.1, R21). -/
def stateTickCeiling : Nat := 18000

/-- The age count saturates at 144,000 samples (R156). -/
def ageCeiling : Nat := 144000

/-- Pause, mix change, interrupted and regrout counts saturate at 255 (2.1.1, R115). -/
def countCeiling : Nat := 255

/-- A stage mix list keeps at most 8 entries (R50). -/
def mixListCap : Nat := 8

/-- The batch request queue holds at most 8 requests (R98). -/
def batchQueueCap : Nat := 8

/-- The stagger count saturates at 300 s (R111). -/
def staggerCeiling : Nat := 300

/-- The stage book holds up to 48 records (R115). -/
def bookCap : Nat := 48

/-- The completion map holds up to 16 hole entries (R119). -/
def mapCap : Nat := 16

/-- The result queue holds up to 16 results (R180). -/
def resultCap : Nat := 16

/-- A line hold keeps up to 2 entries (R173). -/
def lineHoldCap : Nat := 2

/-- The plant hold keeps up to 4 entries (R173). -/
def plantHoldCap : Nat := 4

/-- The receive buffer holds up to 96 characters (R165). -/
def bufferCap : Nat := 96

/-- A gauge's fault and good counts go up to 10 (R131). -/
def gaugeCountCap : Nat := 10

/-- The hold-off covers 20 samples (R143). -/
def holdOffSamples : Nat := 20

/-- A reference period is 10 tested samples (R142). -/
def referencePeriod : Nat := 10

/-- The packer count goes up to 10, where PACKER LOW is raised (R145). -/
def packerSamples : Nat := 10

/-- Whether a run that a tare has deferred waits, on the sample that ends the tare, for the line's next sample event, as R17
words it, or is examined on that sample, as R159 words it. FREE VALUE, DESIGN CHOICE (notes/assumptions/31.md): no rule
settles the two, and every statement holds for both. -/
opaque deferredRunWaits : Bool

end Sys2Proof.Config
end

