-- ==== Sys2Proof/Machine/State.lean ====
section
/-! DEFINITION. The state of the SG-840 as plain data, block by block, and its power-on condition (`State.reset`).
Each structure names the rule that gives it. Where the spec names one thing twice, it is held once and the other view
is computed: an agitator's drawer set from the lines' draw agitators (R94), a gauge's watcher set from the lines' watched
gauges (R132), the tare flag from the tare run (1.1.1), the pending result mark from the pending slot (R180), and each
timer in seconds from its count of samples (notes/assumptions/3.md). -/

namespace Sys2Proof.Machine

/-! ## Line context (2.1.1) -/

/-- The thirteen line states (2.3). -/
inductive LineState where
  | dry | priming | primed | seating | seated | armed | injecting | paused | shutIn | decaying | releasing | washing
  | fouled
deriving DecidableEq, Repr

/-- Why a line was last stopped (2.1.1). -/
inductive PauseCause where
  | order | uplift | siteStop | locl | starved | sensor | protect | power | age
deriving DecidableEq, Repr

/-- Why a bound stage ended (2.1.1). -/
inductive EndReason where
  | refusal | volume | intensity | ordered | protect | aborted | fouled
deriving DecidableEq, Repr

/-- A stage of a hole, as a line is bound to it (2.1.1). -/
structure StageRef where
  hole : Tag
  stage : Nat
deriving DecidableEq, Repr

/-- A current input of a line: its stored scaled value, degraded mark and fault count (1.1.1). -/
structure Channel where
  value : Nat
  degraded : Bool
  faults : Nat
deriving DecidableEq, Repr

/-- A tare run: the samples taken so far and the sum of their values (1.1.1). -/
structure TareRun where
  samples : Nat
  sum : Nat
deriving DecidableEq, Repr

/-- The measurement inputs of one line (1.1.1). -/
structure Inputs where
  collar : Channel
  packer : Channel
  tareOffset : Nat
  /-- The offset with which the last sample's Pc was worked out: a new one first applies on the next sample (R7, R15). The
  model's own field (notes/assumptions/21.md). -/
  pcOffset : Nat
  /-- The pulse counts of the last ten sample events, oldest first (R9). -/
  window : List Nat
  flow : Nat
  strokes : Nat
  tare : Option TareRun
deriving DecidableEq, Repr

/-- The set CHECKS, member by member (R140). -/
structure Checks where
  drop : Bool
  surge : Bool
  overp : Bool
  packer : Bool
  comm : Bool
deriving DecidableEq, Repr

/-- The set HOLDON, member by member (R140). -/
structure HoldOn where
  switch : Bool
  step : Bool
  rate : Bool
deriving DecidableEq, Repr

/-- The line settings (2.2, R140). -/
structure Settings where
  hose : Nat
  pulse : Nat
  cspan : Nat
  pspan : Nat
  seatp : Nat
  gain : Nat
  slew : Nat
  rmax : Nat
  crate : Nat
  primet : Nat
  washt : Nat
  shutin : Nat
  relp : Nat
  drop : Nat
  dfloor : Nat
  surge : Nat
  comm : Nat
  pmargin : Nat
  checks : Checks
  holdon : HoldOn
deriving DecidableEq, Repr

/-- The valves of a line, each open or closed (2.3, R20). -/
structure Valves where
  injection : Bool
  bypass : Bool
  inflation : Bool
  bleed : Bool
  vent : Bool
  wash : Bool
deriving DecidableEq, Repr

/-- What the injection computation keeps (3.2), but for the mixes and the front. -/
structure Figures where
  volume : Nat
  mixVolume : Nat
  /-- The mixes that have reached the column during the stage, in order (R50). -/
  mixList : List MixNo
  pointIndex : Nat
  dwellCount : Nat
  refusalCount : Nat
  pumpRate : Nat
  /-- The pump rates at the end of the last ten samples, oldest first (R69). -/
  rateRecord : List Nat
  warnCap : Option Nat
  tripMark : Bool
  lastPe : Nat
  lastAllowed : Nat
  lastTarget : Nat
  lastIntensity : Nat
  lastTake : Nat
  maxPe : Nat
deriving DecidableEq, Repr

/-- What the response unit keeps for one line (R139). -/
structure Latch where
  reference : Option Nat
  period : Nat
  holdOff : Nat
  dropMark : Bool
  surgeMark : Bool
  packerCount : Nat
  packerMark : Bool
  commMark : Bool
deriving DecidableEq, Repr

/-- What the circulation unit keeps for one line (R156, R158, R159). -/
structure Circ where
  /-- The age count in samples, absent where the line has no grout age. -/
  age : Option Nat
  running : Bool
  runCount : Nat
  blocked : Bool
deriving DecidableEq, Repr

/-- A stage result (R178). -/
structure StageResult where
  hole : Tag
  stage : Nat
  line : LineId
  startClock : Clock
  endClock : Clock
  reason : EndReason
  volume : Nat
  take : Nat
  maxPe : Nat
  finalPe : Nat
  finalG : Nat
  mixes : List MixNo
  mixChanges : Nat
  pauses : Nat
  regrout : Bool
  heave : Option Nat
deriving DecidableEq, Repr

/-- One line: the line context of 2.1.1 with the state the other blocks keep for the line. -/
structure Line where
  state : LineState
  pauseCause : Option PauseCause
  bound : Option StageRef
  regrout : Bool
  startClock : Option Clock
  endReason : Option EndReason
  watched : List GaugeId
  seatRef : Nat
  draw : Option AgitatorId
  columnMix : Option MixNo
  drawMix : Option MixNo
  pendingMix : Option MixNo
  front : Nat
  envelope : Option EnvelopeId
  window : Option WindowId
  releaseFlag : Bool
  /-- The state timer in samples; its seconds are the tenth part, rounded down (R21). -/
  stateTicks : Nat
  condCount : Nat
  slowMark : Bool
  pendingResult : Option StageResult
  key : LockKey
  pauses : Nat
  mixChanges : Nat
  /-- The stage heave maximum (R132). -/
  heaveMax : Option Nat
  settings : Settings
  valves : Valves
  inputs : Inputs
  fig : Figures
  latch : Latch
  circ : Circ
deriving DecidableEq, Repr

/-! ## Tables, plant, book, gauges -/

/-- A profile point: target in kPa and dwell in seconds (R76). -/
structure Point where
  target : Nat
  dwell : Nat
deriving DecidableEq, Repr

/-- A defined profile window (R77). -/
structure Window where
  base : Nat
  count : Nat
deriving DecidableEq, Repr

/-- An agitator's state, with the receive kind of RECEIVING (R92). -/
inductive TankState where
  | empty | ready | dumping | receivingTopup | receivingChange
deriving DecidableEq, Repr

/-- An agitator record but for its drawer set (R92). Capacity and low level are in litres, the level in mL. -/
structure Tank where
  state : TankState
  mix : Option MixNo
  level : Nat
  cap : Nat
  low : Nat
  startQueue : List LineId
  stagger : Nat
deriving DecidableEq, Repr

/-- The agitator field of a batch request (R98). -/
inductive Designation where
  | one (t : AgitatorId)
  | any
deriving DecidableEq, Repr

/-- The kinds of batch request (R98). -/
inductive RequestKind where
  | topup | change
deriving DecidableEq, Repr

/-- The origins of a batch request (R98). -/
inductive Origin where
  | auto
  | line (n : LineId)
  | order
deriving DecidableEq, Repr

/-- A batch request (R98). -/
structure Request where
  tank : Designation
  mix : MixNo
  kind : RequestKind
  origin : Origin
deriving DecidableEq, Repr

/-- The mixer: IDLE, or WAITING or MIXING for the request in service on an agitator (5.5). -/
inductive Mixer where
  | idle
  | waiting (t : AgitatorId) (r : Request)
  | mixing (t : AgitatorId) (r : Request)
deriving DecidableEq, Repr

/-- The plant settings (R93, R121, R161). -/
structure PlantSettings where
  dumpt : Nat
  batcht : Nat
  batchv : Nat
  stagger : Nat
  circi : Nat
  circd : Nat
  method : Method
deriving DecidableEq, Repr

/-- The status of a stage record (R115). -/
inductive StageStatus where
  | opened
  | seatedOn (n : LineId)
  | done
deriving DecidableEq, Repr

/-- A stage record (R115). -/
structure StageRecord where
  hole : Tag
  stage : Nat
  top : Nat
  bottom : Nat
  gauges : List GaugeId
  status : StageStatus
  interrupted : Nat
  regrouts : Nat
deriving DecidableEq, Repr

/-- A hole's entry in the completion map: a done mark for each of stages 1 to 20 (R119). -/
structure HoleEntry where
  hole : Tag
  marks : Vector Bool 20
deriving DecidableEq, Repr

/-- The states of a gauge (R128). -/
inductive GaugeState where
  | off | idle | watch | warn | alarm | fault
deriving DecidableEq, Repr

/-- A gauge record but for its watcher set, its enabled flag (it is enabled when not OFF) and its relative heave, which
is the current heave less the baseline (R128, R130). -/
structure Gauge where
  state : GaugeState
  span : Nat
  warn : Nat
  alarm : Nat
  hyst : Nat
  heave : Int
  baseline : Int
  maximum : Nat
  faults : Nat
  goods : Nat
deriving DecidableEq, Repr

/-- The response table (R148). -/
structure ResponseTable where
  drop : Action
  surge : Action
  overp : Action
  packer : Action
  comm : Action
  sensor : Action
deriving DecidableEq, Repr

/-! ## Events, replies and the order line -/

/-- The kinds of event (R75, R113, R138, 2.14, 8.8, chapters 1 and 9). -/
inductive EventKind where
  | sensor | tareDone | tareFail
  | primed | seated | seatFail | started | paused | ended | decayed | decaySlow | released | deflateSlow | aborted
  | washed
  | overpressure | thicken
  | agitatorEmpty | batchDone | mixSwitch
  | upliftWarn | upliftAlarm | upliftClear | gaugeFault | gaugeRestored
  | drop | surge | packerLow | communication | key | siteStop | siteClear
  | circBlocked | fouled
deriving DecidableEq, Repr

/-- What an event concerns (R173). -/
inductive Subject where
  | line (n : LineId)
  | gauge (g : GaugeId)
  | tank (t : AgitatorId)
deriving DecidableEq, Repr

/-- A value or second value of an event (R173). -/
inductive EventValue where
  | num (i : Int)
  | cause (c : PauseCause)
  | reason (r : EndReason)
  | state (st : LineState)
  | key (k : LockKey)
  | tank (t : AgitatorId)
  | lines (ns : List LineId)
deriving DecidableEq, Repr

/-- An entry of an event hold (R173). -/
structure Event where
  kind : EventKind
  clock : Clock
  subject : Option Subject
  value : Option EventValue
  second : Option EventValue
deriving DecidableEq, Repr

/-- An event hold: entries in order of arrival and an overflow mark (10.5). -/
structure Hold where
  entries : List Event
  overflow : Bool
deriving DecidableEq, Repr

/-- The reason words of a NO reply: the refusal reasons of R168, and LINE and LONG of R166. -/
inductive Reason where
  | name | form | range | key | state | locked | stopped | busy | full | exists | absent | hole | order | gauge
  | pending | low | empty | mix | pressure | sensor
  | line | long
deriving DecidableEq, Repr

/-- A reply field, before it is written as R167 says. -/
inductive Field where
  /-- A number, with a leading minus sign where it is negative. -/
  | num (i : Int)
  /-- An optional item that is absent, a single minus sign. -/
  | absent
  /-- A flag or mark, 1 or 0. -/
  | flag (b : Bool)
  /-- A set or list of lines, gauges or mixes. -/
  | nums (l : List Nat)
  /-- A name, a tag, or letters written as one field. -/
  | word (w : Text)
deriving DecidableEq, Repr

/-- A reply line (R167). -/
inductive Reply where
  | ok (fields : List Field)
  | no (r : Reason)
deriving DecidableEq, Repr

/-- A line of characters that its carriage return has ended (R165). -/
structure EndedLine where
  text : Text
  spoiled : Bool
  long : Bool
deriving DecidableEq, Repr

/-- Whether the part's driver is off, a reply is due and not yet begun, or a reply is being sent (R166). -/
inductive TxPhase where
  | quiet | due | sending
deriving DecidableEq, Repr

/-- The order line: receive buffer, spoiled mark, whether the line is long, the lines held while a reply is due, and the
last reply formed with its place in the transmission (R165, R166). -/
structure OrderLine where
  buffer : Text
  spoiled : Bool
  long : Bool
  held : List EndedLine
  phase : TxPhase
  reply : Option Reply
deriving DecidableEq, Repr

/-! ## The whole part -/

/-- The state of the SG-840, and the queue of the commands that wait (the row's own field, not the spec's). -/
structure State where
  lines : Vector Line 8
  tankA : Tank
  tankB : Tank
  mixes : Vector (Option Mix) 6
  batchQueue : List Request
  mixer : Mixer
  /-- Seconds of the mixer's present phase (5.5, R106). -/
  phaseTimer : Nat
  plant : PlantSettings
  points : Vector Point 256
  windows : Vector (Option Window) 16
  envelopes : Vector (Option Envelope) 4
  book : List StageRecord
  holes : List HoleEntry
  gauges : Vector Gauge 12
  responses : ResponseTable
  loop : Loop
  config : ConfigKey
  lineHolds : Vector Hold 8
  plantHold : Hold
  results : List StageResult
  clock : Clock
  serial : OrderLine
  pending : List Instr
deriving DecidableEq, Repr

/-- The ways a step can stop with a fault. The spec gives the SG-840 no condition that stops it, so there is none: a
command that is turned away is answered NO and the part goes on (safe: nothing is cut short). -/
inductive Fault where
deriving DecidableEq, Repr

/-- The ways a step can be refused by the model. -/
inductive Refusal where
  /-- Raised by `exec`'s own arm for a command that has no meaning yet; no arm raises it in this model (safe). -/
  | notModelled (mnemonic : String)
deriving DecidableEq, Repr

/-! ## Power-on values -/

/-- The defaults of the line settings (2.2, R140). -/
def Settings.default : Settings where
  hose := 20000
  pulse := 10
  cspan := 10000
  pspan := 16000
  seatp := 4000
  gain := 64
  slew := 20
  rmax := 600
  crate := 150
  primet := 120
  washt := 180
  shutin := 300
  relp := 50
  drop := 300
  dfloor := 500
  surge := 500
  comm := 200
  pmargin := 500
  checks := ⟨true, true, true, true, true⟩
  holdon := ⟨true, true, false⟩

/-- The measurement inputs at power-on (R8). -/
def Inputs.powerOn : Inputs where
  collar := ⟨0, false, 0⟩
  packer := ⟨0, false, 0⟩
  tareOffset := 0
  pcOffset := 0
  window := [0, 0, 0, 0, 0, 0, 0, 0, 0, 0]
  flow := 0
  strokes := 0
  tare := none

/-- The items of the injection computation at power-on (R48). -/
def Figures.powerOn : Figures where
  volume := 0
  mixVolume := 0
  mixList := []
  pointIndex := 0
  dwellCount := 0
  refusalCount := 0
  pumpRate := 0
  rateRecord := [0, 0, 0, 0, 0, 0, 0, 0, 0, 0]
  warnCap := none
  tripMark := false
  lastPe := 0
  lastAllowed := 0
  lastTarget := 0
  lastIntensity := 0
  lastTake := 0
  maxPe := 0

/-- The response unit's items of a line at power-on and after RESTART (R139). -/
def Latch.cleared : Latch where
  reference := none
  period := 0
  holdOff := 0
  dropMark := false
  surgeMark := false
  packerCount := 0
  packerMark := false
  commMark := false

/-- The circulation unit's items of a line at power-on (R156, R158). -/
def Circ.powerOn : Circ where
  age := none
  running := false
  runCount := 0
  blocked := false

/-- A line at power-on, its lockout key in the position `k`: FOULED with pause cause POWER, the bleed and vent valves open
(R18). -/
def Line.powerOn (k : LockKey) : Line where
  state := .fouled
  pauseCause := some .power
  bound := none
  regrout := false
  startClock := none
  endReason := none
  watched := []
  seatRef := 0
  draw := none
  columnMix := none
  drawMix := none
  pendingMix := none
  front := 0
  envelope := none
  window := none
  releaseFlag := false
  stateTicks := 0
  condCount := 0
  slowMark := false
  pendingResult := none
  key := k
  pauses := 0
  mixChanges := 0
  heaveMax := none
  settings := .default
  valves := ⟨false, false, false, true, true, false⟩
  inputs := .powerOn
  fig := .powerOn
  latch := .cleared
  circ := .powerOn

/-- An agitator at power-on and after RESTART (R92, R93). -/
def Tank.powerOn : Tank where
  state := .empty
  mix := none
  level := 0
  cap := 1000
  low := 200
  startQueue := []
  stagger := 300

/-- The plant settings' defaults (R93, R121, R161). -/
def PlantSettings.default : PlantSettings where
  dumpt := 60
  batcht := 180
  batchv := 250
  stagger := 20
  circi := 300
  circd := 30
  method := .down

/-- A gauge at power-on and after RESTART (R128, R129). -/
def Gauge.powerOn : Gauge where
  state := .off
  span := 5000
  warn := 100
  alarm := 200
  hyst := 20
  heave := 0
  baseline := 0
  maximum := 0
  faults := 0
  goods := 0

/-- The response table's defaults (R148). -/
def ResponseTable.default : ResponseTable where
  drop := .pause
  surge := .report
  overp := .report
  packer := .pause
  comm := .report
  sensor := .pause

/-- An empty event hold with its overflow mark clear (R173). -/
def Hold.cleared : Hold := ⟨[], false⟩

/-- The order line at power-on: the buffer empty and the spoiled mark clear (R165), nothing held and no reply formed. -/
def OrderLine.powerOn : OrderLine where
  buffer := []
  spoiled := false
  long := false
  held := []
  phase := .quiet
  reply := none

/-- SITE STOP as the plant hold's first entry when the loop is found open at power-on (R153). -/
def siteStopAtPowerOn : Event := ⟨.siteStop, 0, none, none, none⟩

/-- The part after power-on with its loop and key switches as `w` gives them, no command waiting (R8, R18, R76, R77, R83,
R89, R92, R98, R106, R115, R119, R128, R139, R148, R153, R155, R165, R169, R173, R176, R180). -/
def State.atPowerOn (w : Switches) : State where
  lines := #v[line 0, line 1, line 2, line 3, line 4, line 5, line 6, line 7]
  tankA := .powerOn
  tankB := .powerOn
  mixes := Vector.replicate 6 none
  batchQueue := []
  mixer := .idle
  phaseTimer := 0
  plant := .default
  points := Vector.replicate 256 ⟨0, 0⟩
  windows := Vector.replicate 16 none
  envelopes := Vector.replicate 4 none
  book := []
  holes := []
  gauges := Vector.replicate 12 .powerOn
  responses := .default
  loop := w.loop
  config := w.config
  lineHolds := Vector.replicate 8 .cleared
  plantHold := match w.loop with
    | .closed => .cleared
    | .opened => ⟨[siteStopAtPowerOn], false⟩
  results := []
  clock := 0
  serial := .powerOn
  pending := []
where
  /-- Line `n` at power-on, its key as its switch gives it (R155). -/
  line (n : LineId) : Line := Line.powerOn (if w.atLocal.contains n then .locl else .remote)

/-- DESIGN CHOICE (notes/assumptions/2.md): the positions in which reset finds the switches. The spec reads them from the
loop and the key switches and gives none of its own; here the loop is closed, every lockout key is at REMOTE and the
configuration key at RUN. -/
def Switches.atReset : Sys2Proof.Switches := ⟨.closed, [], .run⟩

/-- The machine right after reset: the power-on condition with the queue of commands empty. -/
def State.reset : State := State.atPowerOn Switches.atReset

end Sys2Proof.Machine
end

