-- ==== Sys2Proof/Machine/Ops.lean ====
section
/-! DEFINITION. The named operations over the state that every block shares: reading and writing one line, agitator,
gauge or table entry, placing an event in its hold, answering or refusing an order, and a line's entry to a state with
the outputs that R20 gives it. -/

namespace Sys2Proof

/-- The agitator that is not `t`. -/
def AgitatorId.other : AgitatorId → AgitatorId
  | .tankA => .tankB
  | .tankB => .tankA

namespace Machine

/-! ## One entry of a store -/

/-- Line `n`. -/
def State.line (s : State) (n : LineId) : Line := s.lines[n]

/-- Line `n` replaced by `l`. -/
def State.setLine (s : State) (n : LineId) (l : Line) : State := { s with lines := s.lines.set n l }

/-- Line `n` changed by `f`. -/
def State.updLine (s : State) (n : LineId) (f : Line → Line) : State := s.setLine n (f (s.line n))

/-- Agitator `t`. -/
def State.tank (s : State) : AgitatorId → Tank
  | .tankA => s.tankA
  | .tankB => s.tankB

/-- Agitator `t` replaced by `k`. -/
def State.setTank (s : State) (t : AgitatorId) (k : Tank) : State :=
  match t with
  | .tankA => { s with tankA := k }
  | .tankB => { s with tankB := k }

/-- Agitator `t` changed by `f`. -/
def State.updTank (s : State) (t : AgitatorId) (f : Tank → Tank) : State := s.setTank t (f (s.tank t))

/-- Gauge `g`. -/
def State.gauge (s : State) (g : GaugeId) : Gauge := s.gauges[g]

/-- Gauge `g` replaced by `q`. -/
def State.setGauge (s : State) (g : GaugeId) (q : Gauge) : State := { s with gauges := s.gauges.set g q }

/-- Gauge `g` changed by `f`. -/
def State.updGauge (s : State) (g : GaugeId) (f : Gauge → Gauge) : State := s.setGauge g (f (s.gauge g))

/-- Mix `k` of the mix table, where it is defined (R89). -/
def State.mixEntry (s : State) (k : MixNo) : Option Mix :=
  if k = 0 then none else (s.mixes[k - 1]?).join

/-- Mix entry `k` replaced (R90, R91); no entry changes for a `k` outside 1 to 6. -/
def State.setMix (s : State) (k : MixNo) (m : Option Mix) : State :=
  if k = 0 then s else { s with mixes := s.mixes.setIfInBounds (k - 1) m }

/-- The drawer set of agitator `t` in increasing line number: the lines whose draw agitator it is (R94). -/
def State.drawers (s : State) (t : AgitatorId) : List LineId := allLines.filter fun n => (s.line n).draw == some t

/-- The watcher set of gauge `g` in increasing line number: the lines whose watched gauges include it (R132). -/
def State.watchers (s : State) (g : GaugeId) : List LineId := allLines.filter fun n => (s.line n).watched.contains g

/-- The lines in state `st`, in increasing line number. -/
def State.linesIn (s : State) (st : LineState) : List LineId := allLines.filter fun n => (s.line n).state == st

/-! ## Event holds (10.5) -/

/-- An event arrives at a hold of `cap` entries: it joins as the newest, or is discarded with the overflow mark set (R173). -/
def Hold.place (cap : Nat) (e : Event) (h : Hold) : Hold :=
  if h.entries.length < cap then { h with entries := h.entries ++ [e] } else { h with overflow := true }

/-- An event of line `n` is placed in the line's hold, stamped with the part clock (2.14, R173). -/
def State.lineEvent (s : State) (n : LineId) (k : EventKind) (value second : Option EventValue := none) : State :=
  { s with lineHolds := s.lineHolds.set n (s.lineHolds[n].place Config.lineHoldCap ⟨k, s.clock, some (.line n), value, second⟩) }

/-- A plant, gauge or site event is placed in the plant hold, stamped with the part clock (R113, R138, R173). -/
def State.plantEvent (s : State) (k : EventKind) (subject : Option Subject) (value second : Option EventValue := none) : State :=
  { s with plantHold := s.plantHold.place Config.plantHoldCap ⟨k, s.clock, subject, value, second⟩ }

/-! ## Answering an order (R167, R168) -/

/-- The reply to an order is formed and due (R166, R167). -/
def State.answer (s : State) (r : Reply) : State := { s with serial := { s.serial with reply := some r, phase := .due } }

/-- The order is refused with a reason; it changes nothing but the reply (R168). -/
def State.refuse (s : State) (r : Reason) : State := s.answer (.no r)

/-- The reason of the first check that fails, each check given as (whether it fails, its reason) (R168). -/
def firstFailing (checks : List (Bool × Reason)) : Option Reason := (checks.find? (·.1)).map (·.2)

/-- An order whose checks are made in the order given: the first that fails refuses it; where none fails it is taken, the
part becomes `t` and the reply is OK with the fields `fs` (R168). -/
def State.judge (s : State) (checks : List (Bool × Reason)) (t : State) (fs : List Field := []) : State :=
  match firstFailing checks with
  | some r => s.refuse r
  | none => t.answer (.ok fs)

/-- The KEY check of an engineer order (R168, R169). -/
def State.keyCheck (s : State) : Bool × Reason := (decide (s.config ≠ .enable), .key)

/-! ## Outputs and state entry (R20, R21) -/

/-- The states in which a circulation run may be in progress (R158). -/
def LineState.takesRuns : LineState → Bool
  | .primed | .seated | .armed | .paused => true
  | _ => false

/-- The states in which the packer check is made (R145). -/
def LineState.packerWatched : LineState → Bool
  | .seated | .armed | .injecting | .paused => true
  | _ => false

/-- The states in which the communication check is made (R146). -/
def LineState.commWatched : LineState → Bool
  | .seated | .armed | .paused => true
  | _ => false

/-- The valves that R20's table opens in a state, `run` being whether a circulation run is in progress. -/
def valvesOf (st : LineState) (run : Bool) : Valves :=
  match st with
  | .dry => ⟨false, false, false, false, true, false⟩
  | .priming => ⟨false, true, false, false, true, false⟩
  | .primed => ⟨false, run, false, false, true, false⟩
  | .seating => ⟨false, false, true, false, false, false⟩
  | .seated | .armed | .paused => ⟨false, run, false, false, false, false⟩
  | .injecting => ⟨true, false, false, false, false, false⟩
  | .shutIn => ⟨false, false, false, false, false, false⟩
  | .decaying => ⟨false, false, false, true, false, false⟩
  | .releasing => ⟨false, false, false, true, true, false⟩
  | .washing => ⟨false, false, false, false, true, true⟩
  | .fouled => ⟨false, false, false, true, true, false⟩

/-- The pump rate on entry to a state: CRATE to prime or wash, unchanged while a circulation run goes on, else 0 (R20). -/
def Line.entryRate (l : Line) (st : LineState) (run : Bool) : Nat :=
  match st with
  | .priming | .washing => l.settings.crate
  | _ => if run then l.fig.pumpRate else 0

/-- The line enters a state: the valves and pump as R20 gives, the state timer, condition count and slow mark at 0 or
clear (R21), a circulation run ended outside its four states (R158), and the packer and communication items cleared
outside theirs (R145, R146). -/
def Line.enter (st : LineState) (l : Line) : Line :=
  let run := l.circ.running && st.takesRuns
  { l with
    state := st
    stateTicks := 0
    condCount := 0
    slowMark := false
    valves := valvesOf st run
    fig := { l.fig with pumpRate := l.entryRate st run }
    circ := { l.circ with running := run }
    latch := { l.latch with
      packerCount := if st.packerWatched then l.latch.packerCount else 0
      packerMark := l.latch.packerMark && st.packerWatched
      commMark := l.latch.commMark && st.commWatched } }

/-- Entry to INJECTING: the pump rate and the rate record at 0, the trip mark clear (R30, R48), and the drop reference
latch reset (R141). -/
def Line.enterInjecting (l : Line) : Line :=
  let l := l.enter .injecting
  { l with
    fig := { l.fig with rateRecord := [0, 0, 0, 0, 0, 0, 0, 0, 0, 0], tripMark := false }
    latch := { l.latch with reference := none, period := 0, holdOff := 0, dropMark := false, surgeMark := false } }

/-- A circulation run starts: its flag set, its count 0, the bypass open and the pump at CRATE (R158). -/
def Line.startRun (l : Line) : Line :=
  { l with
    valves := valvesOf l.state true
    fig := { l.fig with pumpRate := l.settings.crate }
    circ := { l.circ with running := true, runCount := 0 } }

/-- A circulation run ends: its flag clear, the bypass closed and the pump stopped (R158). The run count keeps its value. -/
def Line.endRun (l : Line) : Line :=
  if l.circ.running then
    { l with
      valves := valvesOf l.state false
      fig := { l.fig with pumpRate := 0 }
      circ := { l.circ with running := false } }
  else l

/-- The tared collar pressure of the last sample: the collar scaled value less the offset then in force, a result below 0
taken as 0 (R7, R15; between samples, notes/assumptions/21.md). -/
def Inputs.pc (i : Inputs) : Nat := i.collar.value - i.pcOffset

/-- The priming or wash timer is frozen, and with it the pump stopped (R20, R21). -/
def State.timerFrozen (s : State) (n : LineId) : Bool :=
  let l := s.line n
  let stopped := s.loop == .opened || l.key == .locl
  match l.state with
  | .priming => stopped || l.draw.any fun t => (s.tank t).level == 0
  | .washing => stopped
  | _ => false

/-- The pump rate that R20's table gives line `n`, whose regulated rate stands where the line is INJECTING. -/
def State.tableRate (s : State) (n : LineId) : Nat :=
  let l := s.line n
  if s.loop = .opened then 0
  else match l.state with
    | .priming | .washing => if s.timerFrozen n then 0 else l.settings.crate
    | .primed | .seated | .armed | .paused => if l.circ.running then l.settings.crate else 0
    | .injecting => l.fig.pumpRate
    | _ => 0

/-- The pump of line `n` is driven as R20's table gives. -/
def State.drivePump (s : State) (n : LineId) : State :=
  s.updLine n fun l => { l with fig := { l.fig with pumpRate := s.tableRate n } }

/-- The pump of line `n` is stopped at once where its priming or wash timer is now frozen (R20, R24, R44, R154). -/
def State.stopIfFrozen (s : State) (n : LineId) : State :=
  if s.timerFrozen n then s.updLine n fun l => { l with fig := { l.fig with pumpRate := 0 } } else s

end Machine
end Sys2Proof
end

