-- ==== Sys2Proof/Machine/Operands.lean ====
section
/-! DEFINITION. The operand forms of the orders: index fields against their numbering (R168), tags (R89, R115), and
every setting's range, its place in the state and the value it holds (2.2, R93, R129, R140, R161). -/

namespace Sys2Proof
namespace Machine

/-- A value within a range, both ends taken. -/
def inRange (lo hi v : Nat) : Bool := decide (lo ≤ v ∧ v ≤ hi)

/-- A line field: 0 to 7 (R168). -/
def lineOf (n : Nat) : Option LineId := if h : n < 8 then some ⟨n, h⟩ else none

/-- A gauge field: 0 to 11 (R168). -/
def gaugeOf (g : Nat) : Option GaugeId := if h : g < 12 then some ⟨g, h⟩ else none

/-- An envelope field: 0 to 3 (R168). -/
def envelopeOf (e : Nat) : Option EnvelopeId := if h : e < 4 then some ⟨e, h⟩ else none

/-- A window field: 0 to 15 (R168). -/
def windowOf (w : Nat) : Option WindowId := if h : w < 16 then some ⟨w, h⟩ else none

/-- A point field: 0 to 255 (R168). -/
def pointOf (i : Nat) : Option PointId := if h : i < 256 then some ⟨i, h⟩ else none

/-- A mix field: 1 to 6 (R168). -/
def mixOk (k : Nat) : Bool := inRange 1 6 k

/-- A character of a tag: A–Z or 0–9. -/
def tagChar (c : Char) : Bool := ('A' ≤ c && c ≤ 'Z') || ('0' ≤ c && c ≤ '9')

/-- A mix tag: 1 to 8 characters A–Z, 0–9 (R89). -/
def mixTagOk (t : Text) : Bool := inRange 1 8 t.length && t.all tagChar

/-- A hole tag: 1 to 6 characters A–Z, 0–9, other than ADD and DROP (R115). -/
def holeTagOk (t : Tag) : Bool :=
  inRange 1 6 t.length && t.all tagChar && t != ['A', 'D', 'D'] && t != ['D', 'R', 'O', 'P']

/-- A stage number: 1 to 20 (R115). -/
def stageOk (k : Nat) : Bool := inRange 1 20 k

/-- The fields of a mix are each in the range of R89. -/
def mixFieldsOk (m : Mix) : Bool :=
  mixTagOk m.tag && inRange 50 600 m.wc && inRange 1000 2300 m.density && inRange 0 500 m.friction && inRange 10 240 m.settime

/-- The fields of an envelope are each in the range of R83. -/
def envelopeFieldsOk (e : Envelope) : Bool :=
  inRange 100 10000 e.pmax && inRange 1 1000 e.vmax && inRange 10 5000 e.ginmax && inRange 0 200 e.rflow &&
  inRange 10 3600 e.rtime && inRange 0 1000 e.band && inRange 1 500 e.tvol && inRange 10 95 e.tpct

/-! ## Line settings (2.2, R140) -/

/-- The range of a line setting, least and greatest value. -/
def lineRange : LineNumber → Nat × Nat
  | .hose => (1000, 200000)
  | .pulse => (1, 1000)
  | .cspan => (1000, 16000)
  | .pspan => (1000, 25000)
  | .seatp => (500, 20000)
  | .gain => (1, 255)
  | .slew => (1, 100)
  | .rmax => (10, 1200)
  | .crate => (10, 600)
  | .primet => (10, 900)
  | .washt => (30, 900)
  | .shutin => (0, 1800)
  | .relp => (0, 500)
  | .drop => (50, 5000)
  | .dfloor => (0, 5000)
  | .surge => (50, 5000)
  | .comm => (50, 2000)
  | .pmargin => (100, 5000)

/-- The settings that change only in DRY and FOULED (2.2). -/
def restOnly : LineNumber → Bool
  | .hose | .pulse | .cspan | .pspan => true
  | _ => false

/-- The value a line setting holds. -/
def getLineNumber (t : Settings) : LineNumber → Nat
  | .hose => t.hose
  | .pulse => t.pulse
  | .cspan => t.cspan
  | .pspan => t.pspan
  | .seatp => t.seatp
  | .gain => t.gain
  | .slew => t.slew
  | .rmax => t.rmax
  | .crate => t.crate
  | .primet => t.primet
  | .washt => t.washt
  | .shutin => t.shutin
  | .relp => t.relp
  | .drop => t.drop
  | .dfloor => t.dfloor
  | .surge => t.surge
  | .comm => t.comm
  | .pmargin => t.pmargin

/-- A line setting given a new value. -/
def putLineNumber (t : Settings) (f : LineNumber) (v : Nat) : Settings :=
  match f with
  | .hose => { t with hose := v }
  | .pulse => { t with pulse := v }
  | .cspan => { t with cspan := v }
  | .pspan => { t with pspan := v }
  | .seatp => { t with seatp := v }
  | .gain => { t with gain := v }
  | .slew => { t with slew := v }
  | .rmax => { t with rmax := v }
  | .crate => { t with crate := v }
  | .primet => { t with primet := v }
  | .washt => { t with washt := v }
  | .shutin => { t with shutin := v }
  | .relp => { t with relp := v }
  | .drop => { t with drop := v }
  | .dfloor => { t with dfloor := v }
  | .surge => { t with surge := v }
  | .comm => { t with comm := v }
  | .pmargin => { t with pmargin := v }

/-- The set CHECKS that a list of its members names. -/
def checksOf (ms : List CheckName) : Checks :=
  ⟨ms.contains .drop, ms.contains .surge, ms.contains .overp, ms.contains .packer, ms.contains .comm⟩

/-- The set HOLDON that a list of its members names. -/
def holdOnOf (ms : List HoldOnName) : HoldOn :=
  ⟨ms.contains .switch, ms.contains .step, ms.contains .rate⟩

/-! ## Plant, circulation and gauge settings -/

/-- The range of an agitator setting (R93). -/
def tankRange : AgitatorSetting → Nat × Nat
  | .cap => (100, 3000)
  | .low => (0, 2999)

/-- The value an agitator setting holds. -/
def getTank (k : Tank) : AgitatorSetting → Nat
  | .cap => k.cap
  | .low => k.low

/-- The range of a plant setting (R93). -/
def plantRange : PlantSetting → Nat × Nat
  | .dumpt => (10, 600)
  | .batcht => (30, 900)
  | .batchv => (50, 1000)
  | .stagger => (0, 300)

/-- The value a plant setting holds. -/
def getPlant (p : PlantSettings) : PlantSetting → Nat
  | .dumpt => p.dumpt
  | .batcht => p.batcht
  | .batchv => p.batchv
  | .stagger => p.stagger

/-- A plant setting given a new value. -/
def putPlant (p : PlantSettings) (f : PlantSetting) (v : Nat) : PlantSettings :=
  match f with
  | .dumpt => { p with dumpt := v }
  | .batcht => { p with batcht := v }
  | .batchv => { p with batchv := v }
  | .stagger => { p with stagger := v }

/-- The range of a circulation setting (R161). -/
def circRange : CircSetting → Nat × Nat
  | .circi => (60, 1800)
  | .circd => (10, 300)

/-- The value a circulation setting holds. -/
def getCirc (p : PlantSettings) : CircSetting → Nat
  | .circi => p.circi
  | .circd => p.circd

/-- A circulation setting given a new value. -/
def putCirc (p : PlantSettings) (f : CircSetting) (v : Nat) : PlantSettings :=
  match f with
  | .circi => { p with circi := v }
  | .circd => { p with circd := v }

/-- The range of a gauge setting (R129). -/
def gaugeRange : GaugeSetting → Nat × Nat
  | .on => (0, 1)
  | .span => (500, 9999)
  | .warn => (10, 5000)
  | .alarm => (11, 9999)
  | .hyst => (1, 4999)

/-- The value a gauge setting holds (R129). -/
def getGauge (q : Gauge) : GaugeSetting → Nat
  | .on => if q.state = .off then 0 else 1
  | .span => q.span
  | .warn => q.warn
  | .alarm => q.alarm
  | .hyst => q.hyst

end Machine
end Sys2Proof
end

