-- ==== Sys2Proof/Machine/Flags.lean ====
section
/-! DEFINITION. The marks and conditions that blocks read from one another, computed from the state that holds them: in-use
marks (R78, R85, R89), the tare flag (R17), the timers in seconds (R21, R47, R156), what a watched gauge does to a line
(R58, R68), and what an agitator holds (R29, R100). -/

namespace Sys2Proof.Machine

/-- The tare flag of a line: set while a tare run is present (1.1.1). -/
def Line.tareFlag (l : Line) : Bool := l.inputs.tare.isSome

/-- The dwell timer in seconds (R58). -/
def Line.dwellTimer (l : Line) : Nat := l.fig.dwellCount / 10

/-- The refusal timer in seconds (R64). -/
def Line.refusalTimer (l : Line) : Nat := l.fig.refusalCount / 10

/-- The state timer in seconds (R21). -/
def Line.stateTimer (l : Line) : Nat := l.stateTicks / 10

/-- The grout age in seconds, where the line has one (R156). -/
def Line.groutAge (l : Line) : Option Nat := l.circ.age.map (· / 10)

/-- A line in ARMED, INJECTING or PAUSED: the states in which its envelope, window and pending mix count (R78, R100). -/
def Line.working (l : Line) : Bool :=
  match l.state with
  | .armed | .injecting | .paused => true
  | _ => false

/-- A line in INJECTING or ARMED: the states in which it applies a pause request (R32). -/
def Line.pausable (l : Line) : Bool :=
  match l.state with
  | .injecting | .armed => true
  | _ => false

/-- A stage that an END can end: INJECTING, or PAUSED with the stage start clock present (R34). -/
def Line.endable (l : Line) : Bool :=
  match l.state with
  | .injecting => true
  | .paused => l.startClock.isSome
  | _ => false

/-- A line at rest, DRY or FOULED (R19, R177). -/
def Line.atRest (l : Line) : Bool :=
  match l.state with
  | .dry | .fouled => true
  | _ => false

/-- The lines that hold window `w`, in increasing line number (R78). -/
def State.windowHolders (s : State) (w : WindowId) : List LineId := allLines.filter fun n => (s.line n).window == some w

/-- The lines that hold envelope `e`, in increasing line number (R85). -/
def State.envelopeHolders (s : State) (e : EnvelopeId) : List LineId :=
  allLines.filter fun n => (s.line n).envelope == some e

/-- A defined window covers point `i` (R77). -/
def Window.covers (w : Window) (i : PointId) : Bool := decide (w.base ≤ i.val ∧ i.val < w.base + w.count)

/-- Point `i` is in use: it lies in the range of a window that a line holds (R78). -/
def State.pointInUse (s : State) (i : PointId) : Bool :=
  allLines.any fun n => (s.line n).window.any fun w => s.windows[w].any fun d => d.covers i

/-- The request the mixer has in service (5.5). -/
def Mixer.service : Mixer → Option Request
  | .idle => none
  | .waiting _ r => some r
  | .mixing _ r => some r

/-- Mix `k` is in use: a line, an agitator, a queued request or the request in service holds it (R89). -/
def State.mixInUse (s : State) (k : MixNo) : Bool :=
  (allLines.any fun n =>
    let l := s.line n
    l.columnMix == some k || l.drawMix == some k || l.pendingMix == some k) ||
  s.tankA.mix == some k || s.tankB.mix == some k ||
  (s.batchQueue.any fun r => r.mix == k) || s.mixer.service.any fun r => r.mix == k

/-- Agitator `t` holds mix `k`: its mix is `k` and it is READY, or RECEIVING for a TOPUP (R29, R100). -/
def State.tankHolds (s : State) (t : AgitatorId) (k : MixNo) : Bool :=
  (s.tank t).mix == some k && ((s.tank t).state == .ready || (s.tank t).state == .receivingTopup)

/-- Some watched gauge of the line is in one of the states that `p` takes. -/
def State.watchedAny (s : State) (l : Line) (p : GaugeState → Bool) : Bool := l.watched.any fun g => p (s.gauge g).state

/-- The states of a watched gauge that freeze the dwell: WARN, ALARM or FAULT (R58). -/
def GaugeState.freezes : GaugeState → Bool
  | .warn | .alarm | .fault => true
  | _ => false

/-- The states of a watched gauge that cap the pump rate: WARN or FAULT (R68). -/
def GaugeState.caps : GaugeState → Bool
  | .warn | .fault => true
  | _ => false

/-- The states of a listed gauge that refuse SEAT: OFF, ALARM or FAULT (R122). -/
def GaugeState.bars : GaugeState → Bool
  | .off | .alarm | .fault => true
  | _ => false

/-- The relative heave of a gauge: current heave less baseline (R130). -/
def Gauge.relative (q : Gauge) : Int := q.heave - q.baseline

end Sys2Proof.Machine
end

