-- ==== Sys2Proof/Machine/Book.lean ====
section
/-! DEFINITION. The stage book, the completion map (chapter 6) and the result store (11.2). -/

namespace Sys2Proof.Machine

/-- The record is the one of this hole and stage (R115). -/
def StageRecord.isFor (r : StageRecord) (hole : Tag) (stage : Nat) : Bool := r.hole == hole && r.stage == stage

/-- The record is SEATED-ON a line (R115). -/
def StageRecord.seatedOnAny (r : StageRecord) : Bool :=
  match r.status with
  | .seatedOn _ => true
  | _ => false

/-- The record of a hole and stage, where the book has one (R115). -/
def State.record (s : State) (hole : Tag) (stage : Nat) : Option StageRecord := s.book.find? fun r => r.isFor hole stage

/-- The record of a hole and stage changed by `f`. -/
def State.updRecord (s : State) (hole : Tag) (stage : Nat) (f : StageRecord → StageRecord) : State :=
  { s with book := s.book.map fun r => if r.isFor hole stage then f r else r }

/-- The record a line is bound to (R127). -/
def State.boundRecord (s : State) (l : Line) : Option StageRecord := l.bound.bind fun b => s.record b.hole b.stage

/-- A hole's entry in the completion map (R119). -/
def State.holeEntry (s : State) (hole : Tag) : Option HoleEntry := s.holes.find? fun e => e.hole == hole

/-- A hole's done mark for a stage; clear where the hole has no entry (R119). -/
def State.mark (s : State) (hole : Tag) (stage : Nat) : Bool :=
  match s.holeEntry hole with
  | some e => stage != 0 && (e.marks[stage - 1]?).getD false
  | none => false

/-- A hole's done mark for a stage is set (R119). -/
def State.setMark (s : State) (hole : Tag) (stage : Nat) : State :=
  { s with holes := s.holes.map fun e => if e.hole == hole then { e with marks := e.marks.setIfInBounds (stage - 1) true } else e }

/-- The DONE reasons of R41 and R125. -/
def EndReason.isDone : EndReason → Bool
  | .refusal | .volume | .intensity | .ordered | .protect => true
  | .aborted | .fouled => false

/-- What the stage book does with a record at the release of its binding (R41, R125). -/
def State.bookRelease (s : State) (b : StageRef) (reason : Option EndReason) : State :=
  match reason with
  | some r =>
    if r.isDone then (s.updRecord b.hole b.stage fun x => { x with status := .done }).setMark b.hole b.stage
    else s.updRecord b.hole b.stage fun x =>
      { x with status := .opened, interrupted := satAdd Config.countCeiling x.interrupted 1 }
  | none => s.updRecord b.hole b.stage fun x => { x with status := .opened }

/-- The release of line `n`'s binding: the book is told the end reason, and the binding and the end reason become absent
(R41). -/
def State.releaseBinding (s : State) (n : LineId) : State :=
  match (s.line n).bound with
  | some b => (s.bookRelease b (s.line n).endReason).updLine n fun l => { l with bound := none, endReason := none }
  | none => s

/-- The stage order rule of the METHOD in force for stage `k` of a hole (R123). -/
def State.stageOrderHolds (s : State) (hole : Tag) (k : Nat) : Bool :=
  match s.plant.method with
  | .down => (List.range k).all fun j => j == 0 || s.mark hole j
  | .up => s.book.all fun r => r.hole != hole || r.stage ≤ k || r.status == .done

/-- The stage result built from the context of line `n` for the stage `b` that started at `start` (R178). -/
def State.buildResult (s : State) (n : LineId) (b : StageRef) (start : Clock) (reason : EndReason) : StageResult :=
  let l := s.line n
  { hole := b.hole
    stage := b.stage
    line := n
    startClock := start
    endClock := s.clock
    reason := reason
    volume := l.fig.volume
    take := l.fig.lastTake
    maxPe := l.fig.maxPe
    finalPe := l.fig.lastPe
    finalG := l.fig.lastIntensity
    mixes := l.fig.mixList
    mixChanges := l.mixChanges
    pauses := l.pauses
    regrout := l.regrout
    heave := l.heaveMax }

/-- A result is handed to the result store: it joins the queue, or the line's pending slot when the queue is full (R180). -/
def State.handOff (s : State) (r : StageResult) : State :=
  if s.results.length < Config.resultCap then { s with results := s.results ++ [r] }
  else s.updLine r.line fun l => { l with pendingResult := some r }

/-- A result of line `n`'s bound stage is built and handed over, where the stage has started (R179). -/
def State.resultFor (s : State) (n : LineId) (reason : EndReason) : State :=
  match (s.line n).bound, (s.line n).startClock with
  | some b, some c => s.handOff (s.buildResult n b c reason)
  | _, _ => s

/-- The line of the pending result that a TAKE moves: the lowest end clock, and between equal ones the lower line (R181). -/
def State.nextPending (s : State) : Option LineId :=
  allLines.foldl (init := none) fun best n =>
    match (s.line n).pendingResult, best with
    | none, _ => best
    | some _, none => some n
    | some r, some m =>
      match (s.line m).pendingResult with
      | some q => if r.endClock.toNat < q.endClock.toNat then some n else best
      | none => some n

/-- One pending result, if there is any, joins the tail of the queue and leaves its line's slot (R181). -/
def State.movePending (s : State) : State :=
  match s.nextPending with
  | some n =>
    match (s.line n).pendingResult with
    | some r => { s with results := s.results ++ [r] }.updLine n fun l => { l with pendingResult := none }
    | none => s
  | none => s

end Sys2Proof.Machine
end

