-- ==== Sys2Proof/Machine/Plant.lean ====
section
/-! DEFINITION. The plant coordinator (chapter 5): the batch request queue, the mixer, switchovers, start queues and the
settling of the plant. -/

namespace Sys2Proof.Machine

/-! ## The batch request queue (5.4) -/

/-- Some line in ARMED, INJECTING or PAUSED has mix `k` pending (R102, R103). -/
def State.mixWanted (s : State) (k : MixNo) : Bool :=
  allLines.any fun n => (s.line n).working && (s.line n).pendingMix == some k

/-- The origin is a line number. -/
def Origin.isLine : Origin → Bool
  | .line _ => true
  | _ => false

/-- A CHANGE that no line still needs: its origin is a line and no line has its mix pending (R102). -/
def State.notNeeded (s : State) (r : Request) : Bool :=
  r.kind == .change && r.origin.isLine && !s.mixWanted r.mix

/-- The withdrawal of every queued CHANGE that no line still needs (R102). -/
def State.withdraw (s : State) : State := { s with batchQueue := s.batchQueue.filter fun r => !s.notNeeded r }

/-- A queued request has this agitator designation and mix (R98). -/
def State.queued (s : State) (d : Designation) (k : MixNo) : Bool := s.batchQueue.any fun r => r.tank == d && r.mix == k

/-- The queue has room (R98). -/
def State.queueRoom (s : State) : Bool := decide (s.batchQueue.length < Config.batchQueueCap)

/-- A request joins the tail, unless it is a duplicate or the queue is full (R98). -/
def State.enqueue (s : State) (r : Request) : State :=
  if s.queued r.tank r.mix || !s.queueRoom then s else { s with batchQueue := s.batchQueue ++ [r] }

/-- The AUTO TOPUP of agitator `t`, created where R99's conditions hold. -/
def State.createTopup (s : State) (t : AgitatorId) : State :=
  let k := s.tank t
  match k.mix with
  | some m =>
    if k.state = .ready ∧ k.level < k.low * 1000 ∧ (s.batchQueue.all fun r => r.tank != .one t) = true then
      s.enqueue ⟨.one t, m, .topup, .auto⟩
    else s
  | none => s

/-- The agitator that a CHANGE made for a line names (R100). -/
def State.changeTank (s : State) : Designation :=
  match (s.drawers .tankA).isEmpty, (s.drawers .tankB).isEmpty with
  | true, false => .one .tankA
  | false, true => .one .tankB
  | true, true => if s.tankB.level < s.tankA.level then .one .tankB else .one .tankA
  | false, false => .any

/-- A CHANGE for mix `k` is queued or in service (R100). -/
def State.changeUnderWay (s : State) (k : MixNo) : Bool :=
  (s.batchQueue.any fun r => r.kind == .change && r.mix == k) ||
  s.mixer.service.any fun r => r.kind == .change && r.mix == k

/-- The CHANGE for line `n`'s pending mix, created where R100's conditions hold. -/
def State.createChange (s : State) (n : LineId) : State :=
  match (s.line n).pendingMix with
  | some k =>
    if (s.line n).working && !s.tankHolds .tankA k && !s.tankHolds .tankB k && !s.changeUnderWay k then
      s.enqueue ⟨s.changeTank, k, .change, .line n⟩
    else s
  | none => s

/-! ## The mixer (5.5) -/

/-- The examination of the queue discards the request (R103). -/
def State.discards (s : State) (r : Request) : Bool :=
  match r.kind, r.tank with
  | .topup, .one t => (s.tank t).state == .empty || (s.tank t).state == .dumping || (s.tank t).mix != some r.mix
  | .topup, .any => false
  | .change, _ => r.origin != .order && !s.mixWanted r.mix

/-- Agitator `t` can be served a CHANGE: it has no drawers and is READY or EMPTY (R103). -/
def State.changeable (s : State) (t : AgitatorId) : Bool :=
  (s.drawers t).isEmpty && ((s.tank t).state == .ready || (s.tank t).state == .empty)

/-- The agitator on which the request is eligible, if any (R103). -/
def State.eligible (s : State) (r : Request) : Option AgitatorId :=
  match r.kind, r.tank with
  | .topup, .one t =>
    let k := s.tank t
    if k.state = .ready ∧ k.mix = some r.mix ∧ k.level + s.plant.batchv * 1000 ≤ k.cap * 1000 then some t else none
  | .topup, .any => none
  | .change, .one t => if s.changeable t then some t else none
  | .change, .any => if s.changeable .tankA then some .tankA else if s.changeable .tankB then some .tankB else none

/-- The examination of the queue from the oldest request: what is left of the queue, and the request taken with its
agitator (R103). -/
def State.examine (s : State) : List Request → List Request × Option (AgitatorId × Request)
  | [] => ([], none)
  | r :: rs =>
    if s.discards r then s.examine rs
    else match s.eligible r with
      | some t => (rs, some (t, { r with tank := .one t }))
      | none => (r :: (s.examine rs).1, (s.examine rs).2)

/-- The mixer begins the service of a request it has taken: a TOPUP makes its agitator RECEIVING (R105); a CHANGE dumps an
agitator whose level is above 0 and else makes it RECEIVING at once (R104). -/
def State.serve (s : State) (t : AgitatorId) (r : Request) : State :=
  match r.kind with
  | .topup => { s.updTank t fun k => { k with state := .receivingTopup } with mixer := .mixing t r, phaseTimer := 0 }
  | .change =>
    if 0 < (s.tank t).level then
      { s.updTank t fun k => { k with state := .dumping } with mixer := .waiting t r, phaseTimer := 0 }
    else
      { s.updTank t fun k => { k with state := .receivingChange, mix := none } with mixer := .mixing t r, phaseTimer := 0 }

/-- Where the mixer is IDLE it examines the queue and takes the first eligible request (R103). -/
def State.mixerExamines (s : State) : State :=
  match s.mixer with
  | .idle =>
    let s' := { s with batchQueue := (s.examine s.batchQueue).1 }
    match (s.examine s.batchQueue).2 with
    | some (t, r) => s'.serve t r
    | none => s'
  | _ => s

/-- The end of a dump: the level 0, the mix absent, the agitator RECEIVING for a CHANGE and the mixer MIXING (R104). -/
def State.endDump (s : State) (t : AgitatorId) (r : Request) : State :=
  { s.updTank t fun k => { k with state := .receivingChange, mix := none, level := 0 } with
    mixer := .mixing t r, phaseTimer := 0 }

/-- The delivery of a batch (R105). -/
def State.deliver (s : State) (t : AgitatorId) (r : Request) : State :=
  let level := min ((s.tank t).level + s.plant.batchv * 1000) ((s.tank t).cap * 1000)
  let s := s.updTank t fun k => { k with state := .ready, mix := some r.mix, level := level }
  let s := s.plantEvent .batchDone (some (.tank t)) (some (.num r.mix)) (some (.num (level / 1000 : Nat)))
  { s with mixer := .idle, phaseTimer := 0 }

/-! ## Start queues (5.7) -/

/-- Line `n` leaves the start queue it is in; the lines behind keep their order (R109). -/
def State.leaveQueues (s : State) (n : LineId) : State :=
  { s with
    tankA := { s.tankA with startQueue := s.tankA.startQueue.filter (· != n) }
    tankB := { s.tankB with startQueue := s.tankB.startQueue.filter (· != n) } }

/-- Line `n` joins the tail of agitator `t`'s start queue (R109). -/
def State.joinQueue (s : State) (n : LineId) (t : AgitatorId) : State :=
  s.updTank t fun k => { k with startQueue := k.startQueue ++ [n] }

/-- Line `n` joins the tail of its draw agitator's start queue (R29, R33). -/
def State.joinOwnQueue (s : State) (n : LineId) : State :=
  match (s.line n).draw with
  | some t => s.joinQueue n t
  | none => s

/-- The head line of agitator `t`'s start queue, where R110's three conditions hold. -/
def State.grantDue (s : State) (t : AgitatorId) : Option LineId :=
  let k := s.tank t
  match k.startQueue with
  | n :: _ =>
    let l := s.line n
    if k.state = .ready ∧ k.mix = l.drawMix ∧ 0 < k.level ∧ s.plant.stagger ≤ k.stagger ∧ l.circ.running = false ∧
        l.tareFlag = false then some n
    else none
  | [] => none

/-- The start grant of line `n` on agitator `t`: the line leaves the queue, the stagger count is 0 (R110), and the line
enters INJECTING with STARTED raised (R30). -/
def State.grant (s : State) (t : AgitatorId) (n : LineId) : State :=
  let s := s.updTank t fun k => { k with startQueue := k.startQueue.filter (· != n), stagger := 0 }
  let s := s.updLine n fun l =>
    { l.enterInjecting with startClock := some (l.startClock.getD s.clock) }
  s.lineEvent n .started (some (.num (s.line n).pauses))

/-- The examination of agitator `t`'s start grant (R110). -/
def State.grantExamines (s : State) (t : AgitatorId) : State :=
  match s.grantDue t with
  | some n => s.grant t n
  | none => s

/-! ## Switchover (5.6) -/

/-- The agitator and mix to which line `n` switches over, where R107's conditions hold. -/
def State.switchDue (s : State) (n : LineId) : Option (AgitatorId × MixNo) :=
  let l := s.line n
  match l.pendingMix, l.draw with
  | some k, some t =>
    let o := s.tank t.other
    if l.working = true ∧ o.state = .ready ∧ o.mix = some k ∧ 0 < o.level then some (t.other, k) else none
  | _, _ => none

/-- A SWITCH hold-on reaches the latch: the hold-off count becomes 20 where SWITCH is in HOLDON and the line is INJECTING
(R143). -/
def Line.switchHoldOn (l : Line) : Line :=
  if l.settings.holdon.switch = true ∧ l.state = .injecting then
    { l with latch := { l.latch with holdOff := Config.holdOffSamples } }
  else l

/-- The switchover of line `n` to mix `k` on agitator `t` (R107), with the withdrawal it causes (R102). -/
def State.switchTo (s : State) (n : LineId) (t : AgitatorId) (k : MixNo) : State :=
  let s := if (s.line n).state = .armed then (s.leaveQueues n).joinQueue n t else s
  let s := s.updLine n fun l =>
    { l.switchHoldOn with
      draw := some t
      drawMix := some k
      pendingMix := none
      front := l.settings.hose
      mixChanges := satAdd Config.countCeiling l.mixChanges 1
      fig := { l.fig with mixVolume := 0 } }
  (s.lineEvent n .mixSwitch (some (.num k)) (some (.tank t))).withdraw

/-- The switchover examination of line `n` (R107). -/
def State.switchExamines (s : State) (n : LineId) : State :=
  match s.switchDue n with
  | some (t, k) => s.switchTo n t k
  | none => s

/-! ## Settling (5.9) -/

/-- The four examinations of a settling, each on the state left by those before it, the lines in increasing number
(R100, R114). -/
def State.settlePass (s : State) : State :=
  let s := allLines.foldl State.switchExamines s
  let s := (s.createTopup .tankA).createTopup .tankB
  let s := allLines.foldl State.createChange s
  let s := s.mixerExamines
  (s.grantExamines .tankA).grantExamines .tankB

/-- The lines that wait in a start queue and the pending mixes that wait for a switchover: each grant and each switchover
lowers this number, and nothing in a settling raises it. -/
def State.waiting (s : State) : Nat :=
  s.tankA.startQueue.length + s.tankB.startQueue.length + (allLines.filter fun n => (s.line n).pendingMix.isSome).length

/-- A settling, and after a grant or a switchover in it, which are themselves events of the plant, the settling that
follows (R111, R114), at most `fuel` of them. -/
def State.settleFor : Nat → State → State
  | 0, s => s
  | fuel + 1, s => if s.settlePass.waiting < s.waiting then s.settlePass.settleFor fuel else s.settlePass

/-- The plant coordinator settles the plant (R114). Eight lines wait in start queues and eight for switchovers at most, so
seventeen settlings end with one that grants and switches nothing. -/
def State.settle (s : State) : State := s.settleFor 17

/-- What the lines do from `s` to `t` reaches the plant coordinator as an event of R114: a line has joined or left a drawer set
or a start queue, a pending mix is set or cleared, or a circulation run has ended (R94, R109, R158). -/
def State.plantTold (s t : State) : Bool :=
  t.tankA.startQueue != s.tankA.startQueue || t.tankB.startQueue != s.tankB.startQueue ||
  allLines.any fun n =>
    (t.line n).draw != (s.line n).draw || (t.line n).pendingMix != (s.line n).pendingMix ||
    ((s.line n).circ.running && !(t.line n).circ.running)

/-- The state `t` that an act on the lines makes of `s`, settled where the act reaches the plant coordinator, and only there
(R114). -/
def State.settleIfTold (s t : State) : State := if s.plantTold t then t.settle else t

end Sys2Proof.Machine
end

