-- ==== Sys2Proof/Machine/Uplift.lean ====
section
/-! DEFINITION. Uplift watch (chapter 7): watcher sets and baselines, the scaling of a gauge, its fault counts and states.
The alarm's pause requests are sent by the gauge sample in Machine/Samples.lean. -/

namespace Sys2Proof.Machine

/-- What the first watcher does to a gauge: an IDLE gauge takes its baseline and enters WATCH, any other keeps its state
(R132). -/
def Gauge.firstWatcher (q : Gauge) : Gauge :=
  if q.state = .idle then { q with state := .watch, baseline := q.heave, maximum := 0 } else q

/-- What the last watcher's leaving does to a gauge: WATCH and WARN return to IDLE, any other state is kept (R132). -/
def Gauge.lastLeft (q : Gauge) : Gauge :=
  match q.state with
  | .watch | .warn => { q with state := .idle }
  | _ => q

/-- Line `n` joins the watcher sets of the gauges `gs`, its stage heave maximum present with value 0 where there are any
(R26, R132). -/
def State.joinWatchers (s : State) (n : LineId) (gs : List GaugeId) : State :=
  let s' := gs.foldl (fun t g => if (s.watchers g).isEmpty then t.updGauge g Gauge.firstWatcher else t) s
  s'.updLine n fun l => { l with watched := gs, heaveMax := if gs.isEmpty then none else some 0 }

/-- Line `n` leaves the watcher set of every gauge it watches (R132). -/
def State.leaveWatchers (s : State) (n : LineId) : State :=
  let gs := (s.line n).watched
  let s' := s.updLine n fun l => { l with watched := [] }
  gs.foldl (fun t g => if (s'.watchers g).isEmpty then t.updGauge g Gauge.lastLeft else t) s'

/-- A gauge current's heave for a span, or none where the sample is out of range (R130). -/
def gaugeHeave (span current : Nat) : Option Int :=
  if 3600 ≤ current ∧ current ≤ 20800 then
    some (clampInt (-(span : Int)) span (((current : Int) - 12000) * span |>.tdiv 8000))
  else none

/-- What a gauge sample does to the gauge's counts, heave and FAULT state: steps 2 and 3 of R130 with R131. The sample that
restores the gauge sets its baseline to the heave of that same sample, and the good count stands at 10 after it (7.10.1).
`watched` is whether its watcher set is non-empty. -/
def Gauge.classify (watched : Bool) (current : Nat) (q : Gauge) : Gauge :=
  match gaugeHeave q.span current with
  | none =>
    let faults := satAdd Config.gaugeCountCap q.faults 1
    let entersFault := q.faults + 1 = Config.gaugeCountCap ∧ (q.state = .idle ∨ q.state = .watch ∨ q.state = .warn)
    { q with faults := faults, goods := 0, state := if entersFault then .fault else q.state }
  | some h =>
    if q.state = .fault then
      if q.goods + 1 = Config.gaugeCountCap then
        if watched then
          { q with faults := 0, goods := Config.gaugeCountCap, heave := h, baseline := h, maximum := 0, state := .watch }
        else { q with faults := 0, goods := Config.gaugeCountCap, heave := h, state := .idle }
      else { q with faults := 0, goods := q.goods + 1, heave := h }
    else { q with faults := 0, heave := h }

/-- The sample raises GAUGE FAULT: it is the out-of-range sample on which the fault count reaches 10, in a state that R131
gives an act. -/
def Gauge.raisesFault (current : Nat) (q : Gauge) : Bool :=
  (gaugeHeave q.span current).isNone && q.faults + 1 == Config.gaugeCountCap &&
  (q.state == .idle || q.state == .watch || q.state == .warn || q.state == .alarm)

/-- The sample raises GAUGE RESTORED: it is the good sample in FAULT on which the good count reaches 10 (R131). -/
def Gauge.raisesRestored (current : Nat) (q : Gauge) : Bool :=
  (gaugeHeave q.span current).isSome && q.state == .fault && q.goods + 1 == Config.gaugeCountCap

/-- The maximum is raised to the relative heave in WATCH, WARN and ALARM (R130 step 5). -/
def Gauge.raiseMaximum (q : Gauge) : Gauge :=
  match q.state with
  | .watch | .warn | .alarm => { q with maximum := max q.maximum q.relative.toNat }
  | _ => q

/-- The state that R133's tests give a gauge. -/
def Gauge.tested (q : Gauge) : GaugeState :=
  match q.state with
  | .watch =>
    if (q.alarm : Int) ≤ q.relative then .alarm else if (q.warn : Int) ≤ q.relative then .warn else .watch
  | .warn =>
    if (q.alarm : Int) ≤ q.relative then .alarm
    else if q.relative < (q.warn : Int) - q.hyst then .watch else .warn
  | st => st

/-- A line raises its stage heave maximum to a reported relative heave that is greater, where it holds one and is INJECTING
(R132). -/
def Line.reportHeave (h : Int) (l : Line) : Line :=
  if l.state = .injecting then { l with heaveMax := l.heaveMax.map fun m => max m h.toNat } else l

end Sys2Proof.Machine
end

