-- ==== Sys2Proof/Machine/Lines.lean ====
section
/-! DEFINITION. What requests, ends and fouling do to a line (chapter 2, R163), what a draw does to an agitator (5.3), and
the actions of the response table (8.5). None of these settles the plant by itself: the command or event of which they
are part does. -/

namespace Sys2Proof.Machine

/-! ## Pausing (R32) -/

/-- The line context on an order to pause or an applied request (R32). -/
def Line.pause (c : PauseCause) (l : Line) : Line :=
  let pauses := if l.state = .injecting then satAdd Config.countCeiling l.pauses 1 else l.pauses
  { l.enter .paused with
    pauses := pauses
    pauseCause := some c
    fig := { (l.enter .paused).fig with refusalCount := 0 } }

/-- Line `n` is put into PAUSED with cause `c`: out of its start queue, PAUSED raised (R32). -/
def State.pauseNow (s : State) (n : LineId) (c : PauseCause) : State :=
  ((s.leaveQueues n).updLine n (Line.pause c)).lineEvent n .paused (some (.cause c))

/-- A pause request reaches line `n`: applied in INJECTING and ARMED, ignored in every other state (R32). -/
def State.pauseRequest (c : PauseCause) (s : State) (n : LineId) : State :=
  if (s.line n).pausable then s.pauseNow n c else s

/-- A pause request is sent to each of the lines `ns`, in their order. -/
def State.pauseLines (s : State) (ns : List LineId) (c : PauseCause) : State := ns.foldl (State.pauseRequest c) s

/-! ## Stage end (R35) -/

/-- The items that become absent where a stage's work ends (R35, R42). -/
def Line.letGo (l : Line) : Line := { l with envelope := none, window := none, pendingMix := none, pauseCause := none }

/-- The state that follows a stage end: SHUT-IN, or DECAYING where SHUTIN is 0 (R35). -/
def Line.afterEnd (l : Line) : LineState := if l.settings.shutin = 0 then .decaying else .shutIn

/-- The stage of line `n` ends with a reason (R35): the reason fixed, the result built and handed over, the envelope, window,
pending mix and pause cause let go, the CHANGE no line needs withdrawn, ENDED raised and SHUT-IN or DECAYING entered. -/
def State.stageEnd (s : State) (n : LineId) (r : EndReason) : State :=
  let s := s.updLine n fun l => { l with endReason := some r }
  let s := s.resultFor n r
  let s := (s.updLine n Line.letGo).withdraw
  let s := s.lineEvent n .ended (some (.reason r))
  s.updLine n fun l => l.enter l.afterEnd

/-- An end request reaches line `n`: its stage ends with PROTECT where it can be ended, else it is ignored (R34). -/
def State.endRequest (s : State) (n : LineId) : State := if (s.line n).endable then s.stageEnd n .protect else s

/-! ## Fouling (R45, R163) -/

/-- The line context of a line forced to FOULED (R45), its binding and its sets already left. -/
def Line.foul (l : Line) : Line :=
  { l.enter .fouled with
    draw := none
    columnMix := none
    drawMix := none
    pendingMix := none
    envelope := none
    window := none
    releaseFlag := false
    pauseCause := some .age
    circ := { (l.enter .fouled).circ with age := none, blocked := false } }

/-- A tare run present on line `n` ends with TARE FAIL and no value (R16). -/
def State.endTare (s : State) (n : LineId) : State :=
  if (s.line n).tareFlag then
    (s.updLine n fun l => { l with inputs := { l.inputs with tare := none } }).lineEvent n .tareFail
  else s

/-- The circulation unit forces line `n` to FOULED, as one act in the order of R163. -/
def State.foulLine (s : State) (n : LineId) : State :=
  let was := (s.line n).state
  let column := (s.line n).columnMix
  let s := if (s.line n).endReason.isNone then s.resultFor n .fouled else s
  let s := s.updLine n fun l => if l.bound.isSome then { l with endReason := some (l.endReason.getD .fouled) } else l
  let s := (s.releaseBinding n).leaveQueues n
  let s := (s.leaveWatchers n).updLine n Line.foul
  let s := s.withdraw.endTare n
  s.lineEvent n .fouled (some (.state was)) (column.map fun k => .num k)

/-! ## Draws on an agitator (5.3) -/

/-- The requests and stops of an agitator left at level 0: the pumps of its priming lines stop, and its drawers `ns` are
sent a pause request with cause STARVED (R96). DESIGN CHOICE (notes/assumptions/35.md): each of them applies its request at
once, before its next sample; the spec lets an INJECTING one report volume once more before that. -/
def State.starve (s : State) (ns : List LineId) : State :=
  (ns.foldl State.stopIfFrozen s).pauseLines ns .starved

/-- The level of agitator `t` is set by a report or an order; where that leaves it at 0 with drawers and it was above 0,
AGITATOR EMPTY is raised (R96). -/
def State.setLevel (s : State) (t : AgitatorId) (level : Nat) : State :=
  let s' := s.updTank t fun k => { k with level := level }
  if level = 0 ∧ 0 < (s.tank t).level ∧ (s.drawers t).isEmpty = false then
    s'.plantEvent .agitatorEmpty (some (.tank t)) ((s.tank t).mix.map fun k => .num k) (some (.lines (s.drawers t)))
  else s'

/-- A draw of `ml` on agitator `t`: the level falls, no lower than 0 (R95). -/
def State.drawLevel (s : State) (t : AgitatorId) (ml : Nat) : State := s.setLevel t ((s.tank t).level - ml)

/-- Where agitator `t` stands at level 0, its drawers but for the lines `spare` are starved (R96). -/
def State.starveIfEmpty (s : State) (t : AgitatorId) (spare : List LineId) : State :=
  if (s.tank t).level = 0 then s.starve ((s.drawers t).filter fun n => !spare.contains n) else s

/-! ## The response table's actions (8.5) -/

/-- The action in force for a kind of detection (R148). -/
def ResponseTable.get (t : ResponseTable) : DetectionKind → Action
  | .drop => t.drop
  | .surge => t.surge
  | .overp => t.overp
  | .packer => t.packer
  | .comm => t.comm
  | .sensor => t.sensor

/-- A new action for a kind of detection (R148). -/
def ResponseTable.put (t : ResponseTable) (k : DetectionKind) (a : Action) : ResponseTable :=
  match k with
  | .drop => { t with drop := a }
  | .surge => { t with surge := a }
  | .overp => { t with overp := a }
  | .packer => { t with packer := a }
  | .comm => { t with comm := a }
  | .sensor => { t with sensor := a }

/-- The cause of the pause requests of a detection (R149, R150). -/
def detectionCause : DetectionKind → PauseCause
  | .sensor => .sensor
  | _ => .protect

/-- The lines that GROUP pauses: those in INJECTING or ARMED on the draw agitator of a line concerned (R150). -/
def State.groupOf (s : State) (ns : List LineId) : List LineId :=
  allLines.filter fun m =>
    (s.line m).pausable && (s.line m).draw.isSome && ns.any fun n => (s.line n).draw == (s.line m).draw

/-- The lines that ALL pauses: those in INJECTING or ARMED (R150). -/
def State.pausableLines (s : State) : List LineId := allLines.filter fun m => (s.line m).pausable

/-- The response unit applies the action configured for a kind of detection to the lines concerned, and the plant settles
where that leaves a queue, clears a pending mix or ends a run (R149, R150, R114). DESIGN CHOICE (notes/assumptions/30.md): the lines take the
requests of one action in increasing line number, and so the results of the stages that one END ends are handed over in that
order; the spec gives none (R182). -/
def State.respond (s : State) (k : DetectionKind) (concerned : List LineId) : State :=
  match s.responses.get k with
  | .report => s
  | .pause => s.settleIfTold (s.pauseLines concerned (detectionCause k))
  | .endStage => s.settleIfTold (concerned.foldl State.endRequest s)
  | .group => s.settleIfTold (s.pauseLines (s.groupOf concerned) (detectionCause k))
  | .all => s.settleIfTold (s.pauseLines s.pausableLines (detectionCause k))

end Sys2Proof.Machine
end

