-- ==== Sys2Proof/Machine/Circulation.lean ====
section
/-! DEFINITION. The circulation unit (chapter 9): grout age, the set-time limit, and the start and end of circulation runs. -/

namespace Sys2Proof.Machine

/-- The age count after a sample that finds it at `age` (R156). -/
def ageAfter (movement atLocal : Bool) (age : Nat) : Nat :=
  if movement then 0 else if atLocal then age else satAdd Config.ageCeiling age 1

/-- The circulation unit's items after R156's work on a sample and the count of R158: `movement` is whether the sample is a
movement sample and `ran` whether a run was in progress at its start. The blocked mark clears with the age at 0 (R159). -/
def Circ.sample (movement ran atLocal : Bool) (c : Circ) : Circ :=
  let age := c.age.map (ageAfter movement atLocal)
  { c with
    age := age
    runCount := if ran then min 3000 (c.runCount + 1) else c.runCount
    blocked := c.blocked && age.isSome && age != some 0 }

/-- The set-time limit of a line in seconds: the set time of its column mix × 60 (R157). -/
def State.ageLimit (s : State) (l : Line) : Option Nat := (l.columnMix.bind s.mixEntry).map fun m => m.settime * 60

/-- The line stands at its set-time limit (R157). -/
def State.atAgeLimit (s : State) (l : Line) : Bool :=
  match l.groutAge, s.ageLimit l with
  | some a, some lim => decide (lim ≤ a)
  | _, _ => false

/-- A run in progress has covered its length (R158, R161). -/
def State.runIsOver (s : State) (l : Line) (ran : Bool) : Bool :=
  ran && l.circ.running && decide (s.plant.circd * 10 ≤ l.circ.runCount)

/-- The conditions 1 to 4 of R159 hold on a line. -/
def State.runWanted (s : State) (l : Line) : Bool :=
  l.state.takesRuns && !l.circ.running && (l.groutAge.any fun a => decide (s.plant.circi ≤ a)) &&
  l.key == .remote && s.loop == .closed

/-- The conditions 1 to 5 of R159 hold on a line, as they stand after R156 and R157 on a sample. -/
def State.runFallsDue (s : State) (l : Line) : Bool := s.runWanted l && !l.tareFlag

/-- Before a sample of a line, a due run stands deferred by a tare that has taken a sample (R17). -/
def State.runDeferred (s : State) (l : Line) : Bool :=
  s.runWanted l && (l.inputs.tare.any fun t => decide (0 < t.samples))

/-- The draw agitator of a line is READY with a level above 0 (R159, R160). -/
def State.canCirculate (s : State) (l : Line) : Bool :=
  l.draw.any fun t => (s.tank t).state == .ready && decide (0 < (s.tank t).level)

/-- A run falls due on line `n`: it starts, or the line is blocked, with CIRC BLOCKED on the first blocked sample (R159). -/
def State.startOrBlock (s : State) (n : LineId) : State :=
  let l := s.line n
  if s.canCirculate l then s.updLine n Line.startRun
  else if l.circ.blocked then s
  else
    let s := s.lineEvent n .circBlocked (l.groutAge.map fun a => .num a) (l.draw.map .tank)
    s.updLine n fun l => { l with circ := { l.circ with blocked := true } }

/-- Every circulation run in progress on the lines `ns` ends (R152, R154, R158). -/
def State.endRuns (s : State) (ns : List LineId) : State := ns.foldl (fun t n => t.updLine n Line.endRun) s

end Sys2Proof.Machine
end

