-- ==== Sys2Proof/Machine/Measure.lean ====
section
/-! DEFINITION. The measurement inputs (chapter 1): scaling, fault counts, flow and the tare run, one function for each of
the parts (a) to (e) of R1. -/

namespace Sys2Proof.Machine

/-- The scaled value of a collar or packer current by R2's bands, or none where it lies outside the good range. -/
def scaleCurrent (span current : Nat) : Option Nat :=
  if current < 3600 then none
  else if current < 4000 then some 0
  else if current ≤ 20000 then some ((current - 4000) * span / 16000)
  else if current ≤ 20800 then some span
  else none

/-- A current input takes a sample: a good one replaces the scaled value, clears the mark and the count; an out-of-range one
holds the value, sets the mark and raises the count up to 30 (R2, R3, R4). -/
def Channel.sample (span current : Nat) (c : Channel) : Channel :=
  match scaleCurrent span current with
  | some v => ⟨v, false, 0⟩
  | none => { c with degraded := true, faults := satAdd Config.sensorFaults c.faults 1 }

/-- The sample raises SENSOR: it is the out-of-range sample on which the fault count reaches 30 (R4). -/
def Channel.raisesSensor (span current : Nat) (c : Channel) : Bool :=
  (scaleCurrent span current).isNone && c.faults + 1 == Config.sensorFaults

/-- The pulse window after a sample: the oldest count leaves and this sample's joins as the newest (R9). -/
def shiftWindow (w : List Nat) (pulses : Nat) : List Nat := w.drop 1 ++ [pulses]

/-- The flow of a pulse window, clamped to 0..2000 dL/min (R10). -/
def flowOf (w : List Nat) (pulse : Nat) : Nat := min Config.flowCeiling (w.sum * pulse * 3 / 5)

/-- What one sample does to a tare run (R14, R15, R16). -/
inductive TareOutcome where
  /-- No run is present. -/
  | none
  /-- The run goes on. -/
  | running (t : TareRun)
  /-- The run holds 20 good samples, whose mean this is. -/
  | complete (mean : Nat)
  /-- An out-of-range sample ends the run. -/
  | ended
deriving DecidableEq, Repr

/-- A tare run takes the sample whose collar scaled value is `good`, or none where it is out of range (R14). -/
def tareOutcome (good : Option Nat) (run : Option TareRun) : TareOutcome :=
  match run, good with
  | .none, _ => .none
  | some _, .none => .ended
  | some t, some v =>
    if t.samples + 1 = Config.tareSamples then .complete ((t.sum + v) / Config.tareSamples)
    else .running ⟨t.samples + 1, t.sum + v⟩

/-- The tare offset that a completed run leaves: its mean, where that is 300 kPa or less (R15). -/
def tareOffsetAfter (mean old : Nat) : Nat := if mean ≤ Config.tareLimit then mean else old

/-- The measurement inputs after a sample (R1). -/
def Inputs.sample (t : Settings) (x : Sample) (i : Inputs) : Inputs :=
  let w := shiftWindow i.window x.pulses
  let o := tareOutcome (scaleCurrent t.cspan x.collar) i.tare
  { collar := i.collar.sample t.cspan x.collar
    packer := i.packer.sample t.pspan x.packer
    tareOffset := match o with
      | .complete mean => tareOffsetAfter mean i.tareOffset
      | _ => i.tareOffset
    pcOffset := i.tareOffset
    window := w
    flow := flowOf w t.pulse
    strokes := satAdd Config.volumeCeiling i.strokes x.strokes
    tare := match o with
      | .running r => some r
      | _ => .none }

/-- Pc of a sample: the scaled value that the sample leaves, less the offset held before it (R7, R14, R15). -/
def Inputs.samplePc (t : Settings) (x : Sample) (i : Inputs) : Nat := (i.collar.sample t.cspan x.collar).value - i.tareOffset

/-- The tare event of a sample, placed in the line's hold: TARE DONE or TARE FAIL with the mean, or TARE FAIL without a
value (R15, R16). -/
def State.tareEvent (s : State) (n : LineId) : TareOutcome → State
  | .complete mean => s.lineEvent n (if mean ≤ Config.tareLimit then .tareDone else .tareFail) (some (.num mean))
  | .ended => s.lineEvent n .tareFail
  | _ => s

/-- The SENSOR events of a sample, the collar input's first: the value names the input, the second value is the raw current
(R4). -/
def State.sensorEvents (s : State) (n : LineId) (collar packer : Bool) (x : Sample) : State :=
  let s := if collar then s.lineEvent n .sensor (some (.num 1)) (some (.num x.collar)) else s
  if packer then s.lineEvent n .sensor (some (.num 2)) (some (.num x.packer)) else s

/-- Parts (a) to (e) of R1 on line `n`: the inputs updated, the SENSOR events and the tare's event placed. -/
def State.measure (s : State) (n : LineId) (x : Sample) : State :=
  let l := s.line n
  let s' := s.setLine n { l with inputs := l.inputs.sample l.settings x }
  let s' := s'.sensorEvents n (l.inputs.collar.raisesSensor l.settings.cspan x.collar)
    (l.inputs.packer.raisesSensor l.settings.pspan x.packer) x
  s'.tareEvent n (tareOutcome (scaleCurrent l.settings.cspan x.collar) l.inputs.tare)

end Sys2Proof.Machine
end

