-- ==== Sys2Proof/Machine/Injection.lean ====
section
/-! DEFINITION. The injection computation (chapter 3): the fifteen steps, each a function of its own with the rule that gives
it, and the one function that runs them on a line. What the sample hands to other blocks (R74) is in `Computed`. -/

namespace Sys2Proof.Machine

/-! ## What the computation reads (R47) -/

/-- The tables behind a stage: its record, envelope and window, and the entries of the column mix and the draw mix. -/
structure StageTables where
  record : StageRecord
  envelope : Envelope
  window : Window
  column : Mix
  drawn : Mix
deriving DecidableEq, Repr

/-- The tables behind the stage of a line, where all of them are present and defined (R47). An INJECTING line always has
them: what it uses cannot be dropped or undefined while it uses it (R78, R85, R89, R117). -/
def State.stageTables (s : State) (l : Line) : Option StageTables :=
  match s.boundRecord l, l.envelope.bind (fun e => s.envelopes[e]), l.window.bind (fun w => s.windows[w]),
      l.columnMix.bind s.mixEntry, l.drawMix.bind s.mixEntry with
  | some r, some e, some w, some c, some d => some ⟨r, e, w, c, d⟩
  | _, _, _, _, _ => none

/-- Point `base + index` of a window; the pool has a point there, since base + count is at most 256 (R60, R77). -/
def State.pointAt (s : State) (w : Window) (index : Nat) : Point := (s.points[w.base + index]?).getD ⟨0, 0⟩

/-! ## Steps 1 and 2: volume and front -/

/-- Step 1: the added volume joins V and Vm, each saturating (R49). -/
def Figures.addVolume (added : Nat) (f : Figures) : Figures :=
  { f with
    volume := satAdd Config.volumeCeiling f.volume added
    mixVolume := satAdd Config.volumeCeiling f.mixVolume added }

/-- A mix reaches the column: it joins the stage mix list unless it is the last entry, in the eighth place when the list is
full (R50). -/
def appendMix (ms : List MixNo) (k : MixNo) : List MixNo :=
  if ms.getLast? = some k then ms
  else if ms.length < Config.mixListCap then ms ++ [k] else ms.dropLast ++ [k]

/-- The front arrives on this sample: it goes from above 0 to 0 (R50). -/
def Line.frontArrives (added : Nat) (l : Line) : Bool := decide (0 < l.front ∧ l.front ≤ added)

/-- Step 2: the front moves by the added volume, and at its arrival the column mix becomes the draw mix (R50). -/
def Line.moveFront (added : Nat) (l : Line) : Line :=
  if l.frontArrives added then
    { l with
      front := 0
      columnMix := l.drawMix
      fig := { l.fig with mixList := match l.drawMix with
        | some k => appendMix l.fig.mixList k
        | none => l.fig.mixList } }
  else { l with front := l.front - added }

/-! ## Steps 3 to 9: pressures, take and intensity -/

/-- The mid-stage depth in dm (R51). -/
def StageRecord.depth (r : StageRecord) : Nat := (r.top + r.bottom) / 2

/-- The stage length L in dm (R51). -/
def StageRecord.length (r : StageRecord) : Nat := r.bottom - r.top

/-- Step 3: the column head in kPa, to nearest with halves up (R52). -/
def columnHead (density depth : Nat) : Nat := roundDiv (density * depth * 981) 1000000

/-- Step 4: the line loss in kPa (R53). -/
def lineLoss (friction q : Nat) : Nat := friction * q / 100

/-- Step 5: the effective pressure, Pc + head − loss clamped to 0..12000 (R54). -/
def effectivePressure (pc head loss : Nat) : Nat := min Config.pressureCeiling (pc + head - loss)

/-- Step 7: the take per metre in 0.1 L/m, saturating (R55). -/
def takePerMetre (volume length : Nat) : Nat := min Config.figureCeiling (volume / (length * 10))

/-- Step 8: the intensity, saturating (R56). -/
def intensity (pe volume length : Nat) : Nat := min Config.figureCeiling (pe * volume / (length * 10000))

/-- Step 9: the allowed pressure (R57). -/
def allowedPressure (e : Envelope) (volume length : Nat) : Nat :=
  if volume = 0 then e.pmax else min e.pmax (e.ginmax * length * 10000 / volume)

/-! ## Steps 10 and 11: profile and target -/

/-- The dwell count of the sample before the step test (R58). -/
def dwellCountAfter (frozen : Bool) (count : Nat) : Nat :=
  if frozen then count else satAdd Config.sampleCountCeiling count 1

/-- A step is made: the sample is not frozen, the present point is not the window's last, and the dwell timer is at or above
its dwell (R58, R59). -/
def stepMade (frozen : Bool) (w : Window) (dwell index count : Nat) : Bool :=
  !frozen && decide (index + 1 < w.count) && decide (dwell ≤ count / 10)

/-! ## Steps 12 and 13: trip and stage end -/

/-- The trip limit, Pmax and a tenth of it rounded down (R62). -/
def tripLimit (e : Envelope) : Nat := e.pmax + e.pmax / 10

/-- The refusal condition of a sample (R64). -/
def refusalHolds (e : Envelope) (q pe target : Nat) : Bool :=
  decide (q ≤ e.rflow) && decide ((target : Int) - e.band ≤ pe)

/-- The refusal count after a sample (R64). -/
def refusalCountAfter (holds : Bool) (count : Nat) : Nat :=
  if holds then satAdd Config.sampleCountCeiling count 1 else 0

/-- The first of R65's conditions that holds, in its order. -/
def stageEndReason (e : Envelope) (take gin refusalCount : Nat) : Option EndReason :=
  if e.vmax * 10 ≤ take then some .volume
  else if e.ginmax - e.ginmax / 50 ≤ gin then some .intensity
  else if e.rtime ≤ refusalCount / 10 then some .refusal
  else none

/-! ## Step 14: pump rate -/

/-- The change of rate: e × GAIN / 256 truncated toward zero, clamped to −SLEW..+SLEW (R67). -/
def rateChange (t : Settings) (target pe : Nat) : Int :=
  clampInt (-(t.slew : Int)) t.slew (((target : Int) - pe) * t.gain |>.tdiv 256)

/-- The new rate of the law before the warn cap, clamped to 0..RMAX (R67). -/
def lawRate (t : Settings) (rate target pe : Nat) : Nat := (clampInt 0 t.rmax ((rate : Int) + rateChange t target pe)).toNat

/-- The warn cap after the look at the watched gauges (R68). -/
def warnCapAfter (capping : Bool) (cap : Option Nat) (rate : Nat) : Option Nat :=
  if capping then some (cap.getD rate) else none

/-- A rate reduced to the cap where one is present and the rate is above it (R67). -/
def underCap (cap : Option Nat) (rate : Nat) : Nat :=
  match cap with
  | some c => min c rate
  | none => rate

/-- The sample makes a RATE hold-on: its rate differs by 50 or more from the oldest entry of the rate record (R69). -/
def rateHoldOn (record : List Nat) (rate : Nat) : Bool :=
  let old := record.headD 0
  decide (old + 50 ≤ rate ∨ rate + 50 ≤ old)

/-- The rate record after a sample (R69). -/
def recordRate (record : List Nat) (rate : Nat) : List Nat := record.drop 1 ++ [rate]

/-! ## Step 15: thickening -/

/-- The mix that thickening makes pending, where it is due (R71). -/
def State.thickenDue (s : State) (e : Envelope) (l : Line) (length pe target : Nat) : Option MixNo :=
  match l.columnMix with
  | some c =>
    if l.pendingMix = none ∧ l.drawMix = some c ∧ c < 6 ∧ (s.mixEntry (c + 1)).isSome = true ∧
        e.tvol * 10 ≤ l.fig.mixVolume / (length * 10) ∧ pe * 100 < e.tpct * target then some (c + 1)
    else none
  | none => none

/-! ## The whole sample -/

/-- What one sample of the computation leaves and hands on (R74). -/
structure Computed where
  /-- The line with every figure of the sample; its state and its pending mix are as before the sample. -/
  line : Line
  added : Nat
  pe : Nat
  limit : Nat
  tripped : Bool
  /-- OVERPRESSURE is raised: a tripped sample with the trip mark clear before it (R63). -/
  overpressure : Bool
  stepped : Bool
  rateHoldOn : Bool
  ended : Option EndReason
  thicken : Option MixNo
deriving DecidableEq, Repr

/-- Steps 1 to 11 and the trip mark and refusal count of steps 12 and 13, on line `l`, whose inputs are those of this sample:
`pc` is the sample's Pc and `pulses` its pulse count. The pump rate is 0 on a tripped sample (R62). -/
def State.computeFigures (s : State) (t : StageTables) (pc pulses : Nat) (l : Line) : Line :=
  let added := pulses * l.settings.pulse
  let l := ({ l with fig := l.fig.addVolume added }).moveFront added
  let column := (l.columnMix.bind s.mixEntry).getD t.column
  let len := t.record.length
  let pe := effectivePressure pc (columnHead column.density t.record.depth) (lineLoss column.friction l.inputs.flow)
  let frozen := s.watchedAny l GaugeState.freezes
  let count := dwellCountAfter frozen l.fig.dwellCount
  let stepped := stepMade frozen t.window (s.pointAt t.window l.fig.pointIndex).dwell l.fig.pointIndex count
  let index := if stepped then l.fig.pointIndex + 1 else l.fig.pointIndex
  let allowed := allowedPressure t.envelope l.fig.volume len
  let target := min (s.pointAt t.window index).target allowed
  let tripped := decide (tripLimit t.envelope < pe)
  { l with fig := { l.fig with
      lastPe := pe
      maxPe := max l.fig.maxPe pe
      lastTake := takePerMetre l.fig.volume len
      lastIntensity := intensity pe l.fig.volume len
      lastAllowed := allowed
      dwellCount := if stepped then 0 else count
      pointIndex := index
      lastTarget := target
      tripMark := tripped
      pumpRate := if tripped then 0 else l.fig.pumpRate
      refusalCount := refusalCountAfter (refusalHolds t.envelope l.inputs.flow pe target) l.fig.refusalCount } }

/-- The pump rate at the end of the line's previous computation sample, or 0 after an entry to INJECTING: the newest entry of
the rate record, which a SET of RMAX leaves as it stands (R48, R67, R68, R69). -/
def Figures.previousRate (f : Figures) : Nat := f.rateRecord.getLastD 0

/-- Step 14 on a sample that neither tripped nor ended: the warn cap, then the law (R67, R68). -/
def State.rateStep (s : State) (l : Line) : Line :=
  let cap := warnCapAfter (s.watchedAny l GaugeState.caps) l.fig.warnCap l.fig.previousRate
  { l with fig := { l.fig with
      warnCap := cap
      pumpRate := underCap cap (lawRate l.settings l.fig.previousRate l.fig.lastTarget l.fig.lastPe) } }

/-- The fifteen steps on line `l` (R46). A sample that finds a stage end stops after step 13 (R66); a tripped sample leaves
out step 14 (R62). -/
def State.compute (s : State) (t : StageTables) (pc pulses : Nat) (l : Line) : Computed :=
  let m := s.computeFigures t pc pulses l
  let ended := stageEndReason t.envelope m.fig.lastTake m.fig.lastIntensity m.fig.refusalCount
  let rated := if m.fig.tripMark then m else s.rateStep m
  let recorded := { rated with fig := { rated.fig with rateRecord := recordRate rated.fig.rateRecord rated.fig.pumpRate } }
  { line := if ended.isSome then m else recorded
    added := pulses * l.settings.pulse
    pe := m.fig.lastPe
    limit := tripLimit t.envelope
    tripped := m.fig.tripMark
    overpressure := m.fig.tripMark && !l.fig.tripMark
    stepped := decide (m.fig.pointIndex ≠ l.fig.pointIndex)
    rateHoldOn := ended.isNone && rateHoldOn rated.fig.rateRecord rated.fig.pumpRate
    ended := ended
    thicken := if ended.isSome then none else s.thickenDue t.envelope m t.record.length m.fig.lastPe m.fig.lastTarget }

end Sys2Proof.Machine
end

