-- ==== Sys2Proof/Machine/Protect.lean ====
section
/-! DEFINITION. The response unit's checks on a line sample (8.3, 8.4): the drop reference latch, the drop and surge tests,
the packer check and the communication check. -/

namespace Sys2Proof.Machine

/-! ## The drop reference latch (8.3) -/

/-- A STEP or RATE made on the sample is selected by the line's HOLDON (R143). -/
def HoldOn.selects (h : HoldOn) (step rate : Bool) : Bool := (h.step && step) || (h.rate && rate)

/-- The DROP test of a tested sample (R144). -/
def Latch.dropHolds (t : Settings) (pe : Nat) (k : Latch) : Bool :=
  match k.reference with
  | some r => t.checks.drop && !k.dropMark && decide (t.dfloor ≤ r ∧ pe + t.drop ≤ r)
  | none => false

/-- The SURGE test of a tested sample (R144). -/
def Latch.surgeHolds (t : Settings) (pe : Nat) (k : Latch) : Bool :=
  match k.reference with
  | some r => t.checks.surge && !k.surgeMark && decide (r + t.surge ≤ pe)
  | none => false

/-- The Pe of a sample is taken as the reference: the period count 0 and the marks clear (R142, R143). -/
def Latch.takeReference (pe : Nat) (k : Latch) : Latch :=
  { k with reference := some pe, period := 0, dropMark := false, surgeMark := false }

/-- The sample is a tested one: after the first, with no hold-off running and no selected hold-on made on it (R142). -/
def Latch.tests (selected : Bool) (k : Latch) : Bool := k.reference.isSome && !selected && k.holdOff == 0

/-- The hold-off ends on this sample (R143). -/
def Latch.holdOffEnds (selected : Bool) (k : Latch) : Bool := k.reference.isSome && !selected && k.holdOff == 1

/-- A new reference is taken on this sample at the end of a reference period (R142). -/
def Latch.periodEnds (selected : Bool) (k : Latch) : Bool := k.tests selected && k.period + 1 == Config.referencePeriod

/-- The latch after one Pe of the computation, `selected` being whether the sample made a selected hold-on (R141 to R144). -/
def Latch.sample (t : Settings) (selected : Bool) (pe : Nat) (k : Latch) : Latch :=
  match k.reference with
  | none => { k with reference := some pe, holdOff := if selected then Config.holdOffSamples else k.holdOff - 1 }
  | some _ =>
    if selected then { k with holdOff := Config.holdOffSamples }
    else if k.holdOff = 0 then
      let m := { k with dropMark := k.dropMark || k.dropHolds t pe, surgeMark := k.surgeMark || k.surgeHolds t pe }
      if k.period + 1 = Config.referencePeriod then m.takeReference pe else { m with period := k.period + 1 }
    else if k.holdOff = 1 then { k with holdOff := 0 }.takeReference pe
    else { k with holdOff := k.holdOff - 1 }

/-! ## Packer check (R145) -/

/-- The packer-low threshold, SEATP − PMARGIN as a signed number (R145). -/
def packerThreshold (t : Settings) : Int := (t.seatp : Int) - t.pmargin

/-- The packer check is made on a line in state `st` (R145). -/
def packerChecked (t : Settings) (st : LineState) : Bool := t.checks.packer && st.packerWatched

/-- The packer check raises PACKER LOW on this sample (R145). -/
def Latch.packerRaises (t : Settings) (st : LineState) (packer : Nat) (k : Latch) : Bool :=
  packerChecked t st && decide ((packer : Int) < packerThreshold t) && k.packerCount + 1 == Config.packerSamples && !k.packerMark

/-- The packer count and mark after the check (R145). -/
def Latch.packerCheck (t : Settings) (st : LineState) (packer : Nat) (k : Latch) : Latch :=
  if packerChecked t st then
    if (packer : Int) < packerThreshold t then
      { k with
        packerCount := satAdd Config.packerSamples k.packerCount 1
        packerMark := k.packerMark || k.packerRaises t st packer }
    else { k with packerCount := 0, packerMark := false }
  else k

/-! ## Communication check (R146) -/

/-- The communication check raises COMMUNICATION on this sample: `others` is whether another line is INJECTING (R146). -/
def Latch.commRaises (t : Settings) (st : LineState) (pc seatRef : Nat) (others : Bool) (k : Latch) : Bool :=
  t.checks.comm && st.commWatched && !k.commMark && decide (seatRef + t.comm ≤ pc) && others

/-- The communication mark after the check (R146). -/
def Latch.commCheck (t : Settings) (st : LineState) (pc seatRef : Nat) (others : Bool) (k : Latch) : Latch :=
  if t.checks.comm && st.commWatched then
    if k.commMark then { k with commMark := !decide (pc < seatRef + t.comm / 2) }
    else { k with commMark := k.commRaises t st pc seatRef others }
  else k

/-! ## What a sample's checks find -/

/-- The detections of one sample in the order of R151, each with what its event carries. -/
structure Detections where
  /-- How many inputs raised SENSOR on the sample. -/
  sensors : Nat
  /-- OVERPRESSURE was raised and OVER is in CHECKS (R147). -/
  overp : Bool
  /-- DROP: Pe and the reference. -/
  drop : Option (Nat × Nat)
  /-- SURGE: Pe and the reference. -/
  surge : Option (Nat × Nat)
  /-- PACKER LOW: the packer pressure and the threshold. -/
  packer : Option (Nat × Int)
  /-- COMMUNICATION: Pc and the injecting lines. -/
  comm : Option (Nat × List LineId)
deriving DecidableEq, Repr

/-- A detection of the response unit's own: its event is placed, then the action for its kind applied (R147). -/
def State.detect (s : State) (n : LineId) (k : EventKind) (d : DetectionKind) (value second : EventValue)
    (concerned : List LineId) : State :=
  (s.lineEvent n k (some value) (some second)).respond d concerned

/-- The response unit takes a sample's detections in R151's order, placing its own events and applying each action in turn. -/
def State.takeDetections (s : State) (n : LineId) (d : Detections) : State :=
  let s := (List.replicate d.sensors ()).foldl (fun t _ => t.respond .sensor [n]) s
  let s := if d.overp then s.respond .overp [n] else s
  let s := match d.drop with
    | some (pe, r) => s.detect n .drop .drop (.num pe) (.num r) [n]
    | none => s
  let s := match d.surge with
    | some (pe, r) => s.detect n .surge .surge (.num pe) (.num r) [n]
    | none => s
  let s := match d.packer with
    | some (p, th) => s.detect n .packerLow .packer (.num p) (.num th) [n]
    | none => s
  match d.comm with
    | some (pc, ns) => s.detect n .communication .comm (.num pc) (.lines ns) ns
    | none => s

end Sys2Proof.Machine
end

