-- ==== Sys2Proof/Machine/Timed.lean ====
section
/-! DEFINITION. The line controller's work on a sample in the timed states (R21, R24, R26, R27, R36 to R38, R40, R44), and
the names of the events that can come about on a sample. -/

namespace Sys2Proof.Machine

/-- The named events of spec/opcode_table.json that come about inside a line sample, a gauge sample or a part-clock
second. -/
inductive Note where
  | sensor | tareDone | primed | seated | seatFail | shutInEnd | decayed | decaySlow | released | deflateSlow | washed
  | profileStep | refusal | dropReferenceTaken | holdOffEnd | packerLow | fouled | runDue | runEnd
  | gaugeFault | gaugeRestored | dumpEnd | batchDone
deriving DecidableEq, Repr

/-- The end of priming: column mix and draw mix are the agitator's, the front and the grout age 0, PRIMED entered and
raised (R24). -/
def State.finishPriming (s : State) (n : LineId) : State :=
  let k := (s.line n).draw.bind fun t => (s.tank t).mix
  let s := s.updLine n fun l =>
    let l := l.enter .primed
    { l with columnMix := k, drawMix := k, front := 0, circ := { l.circ with age := some 0, blocked := false } }
  s.lineEvent n .primed (k.map fun m => .num m)

/-- The completion of a seat: the watcher sets joined, the seat reference taken, SEATED entered and raised (R26). -/
def State.finishSeat (s : State) (n : LineId) (pc packer : Nat) : State :=
  let gs := match s.boundRecord (s.line n) with
    | some r => r.gauges
    | none => []
  let s := (s.joinWatchers n gs).updLine n fun l => { l.enter .seated with seatRef := pc }
  s.lineEvent n .seated (some (.num packer))

/-- The failure of a seat: the record back to OPEN, the line back in PRIMED, SEAT FAIL raised (R27). -/
def State.failSeat (s : State) (n : LineId) (packer : Nat) : State :=
  ((s.releaseBinding n).updLine n (Line.enter .primed)).lineEvent n .seatFail (some (.num packer))

/-- The end of DECAYING: RELEASING with the release flag set, else SEATED with the binding released (R37). -/
def State.finishDecay (s : State) (n : LineId) : State :=
  let s := s.lineEvent n .decayed
  if (s.line n).releaseFlag then s.updLine n (Line.enter .releasing)
  else (s.updLine n (Line.enter .seated)).releaseBinding n

/-- The completion of RELEASING (R40). -/
def State.finishRelease (s : State) (n : LineId) : State :=
  let s := (s.leaveWatchers n).releaseBinding n
  (s.updLine n fun l => { l.enter .primed with releaseFlag := false }).lineEvent n .released

/-- The end of WASHING: DRY entered, any watcher set left, WASHED raised (R44). -/
def State.finishWash (s : State) (n : LineId) : State :=
  ((s.updLine n (Line.enter .dry)).leaveWatchers n).lineEvent n .washed

/-- DECAY SLOW or DEFLATE SLOW is raised and the slow mark set (R38, R40). -/
def State.raiseSlow (s : State) (n : LineId) (k : EventKind) (value : Nat) : State :=
  (s.updLine n fun l => { l with slowMark := true }).lineEvent n k (some (.num value))

/-- The condition count after a sample: one more where the condition holds, up to `cap`, else 0 (R21, R26, R37, R40). -/
def condAfter (cap : Nat) (holds : Bool) (count : Nat) : Nat := if holds then satAdd cap count 1 else 0

/-- The state timer in samples after a sample: it does not advance while frozen (R21). -/
def ticksAfter (frozen : Bool) (ticks : Nat) : Nat := if frozen then ticks else satAdd Config.stateTickCeiling ticks 1

/-- The samples of its completion condition that a state asks for in a row (R26, R37, R40). -/
def condCap : LineState → Nat
  | .seating => 20
  | _ => 10

/-- The completion condition of a state on a sample (R26, R37, R40). -/
def condHolds (t : Settings) (st : LineState) (pc packer : Nat) : Bool :=
  match st with
  | .seating => decide (t.seatp ≤ packer)
  | .decaying => decide (pc ≤ t.relp)
  | .releasing => decide (packer ≤ 100)
  | _ => false

/-- The states that have a state timer (R21). -/
def LineState.timed : LineState → Bool
  | .priming | .seating | .shutIn | .decaying | .releasing | .washing => true
  | _ => false

/-- The state timer and condition count of line `n` advance (R21). -/
def State.tickLine (s : State) (n : LineId) (pc packer : Nat) : State :=
  let frozen := s.timerFrozen n
  s.updLine n fun l =>
    if l.state.timed then
      { l with
        stateTicks := ticksAfter frozen l.stateTicks
        condCount := condAfter (condCap l.state) (condHolds l.settings l.state pc packer) l.condCount }
    else l

/-- The line controller's work on a sample in a state other than INJECTING, and the event that came about. The completion
goes before the limit where both are reached (R21). -/
def State.timedWork (s : State) (n : LineId) (pc packer : Nat) : State × List Note :=
  let s := s.tickLine n pc packer
  let l := s.line n
  match l.state with
  | .priming => if l.settings.primet ≤ l.stateTimer then (s.finishPriming n, [.primed]) else (s, [])
  | .seating =>
    if l.condCount = condCap .seating then (s.finishSeat n pc packer, [.seated])
    else if 60 ≤ l.stateTimer then (s.failSeat n packer, [.seatFail])
    else (s, [])
  | .shutIn => if l.settings.shutin ≤ l.stateTimer then (s.updLine n (Line.enter .decaying), [.shutInEnd]) else (s, [])
  | .decaying =>
    if l.condCount = condCap .decaying then (s.finishDecay n, [.decayed])
    else if 300 ≤ l.stateTimer ∧ l.slowMark = false then (s.raiseSlow n .decaySlow pc, [.decaySlow])
    else (s, [])
  | .releasing =>
    if l.condCount = condCap .releasing then (s.finishRelease n, [.released])
    else if 60 ≤ l.stateTimer ∧ l.slowMark = false then (s.raiseSlow n .deflateSlow packer, [.deflateSlow])
    else (s, [])
  | .washing => if l.settings.washt ≤ l.stateTimer then (s.finishWash n, [.washed]) else (s, [])
  | _ => (s, [])

end Sys2Proof.Machine
end

