-- ==== Sys2Proof/Machine/Samples.lean ====
section
/-! DEFINITION. The three sample and clock events as whole steps: a line sample (R1, R46, R151, R156), a gauge sample
(R130) and a part-clock second (R176). Each answers the state it leaves and the named events that came about on it. -/

namespace Sys2Proof.Machine

/-! ## A line sample event -/

/-- What the line controller's work on a sample leaves, before any request or notice reaches the line (R46). -/
structure Worked where
  st : State
  notes : List Note
  /-- OVERPRESSURE was raised and OVER is in CHECKS (R147). -/
  overp : Bool
  /-- DROP was detected: Pe and the reference (R144). -/
  drop : Option (Nat × Nat)
  /-- SURGE was detected: Pe and the reference (R144). -/
  surge : Option (Nat × Nat)
  /-- The draw agitator that this sample's report left at level 0 (R96). -/
  starving : Option AgitatorId
  /-- The thickening or the stage end of the sample reaches the plant coordinator: a pending mix is set or cleared (R72, R114). -/
  told : Bool
  /-- The sample added a volume above 0 in step 1 (R156). -/
  moved : Bool

/-- The drawn-volume report of step 1: the level falls, the other drawers of an agitator left at 0 are starved, and the
plant settles. The line's own pause waits for the end of its sample (R46, R49, R95, R96); the other drawers apply theirs at
once, where the spec lets an INJECTING one report once more before (DESIGN CHOICE, notes/assumptions/35.md). -/
def State.reportDraw (s : State) (n : LineId) (added : Nat) : State :=
  match (s.line n).draw with
  | some t => if 0 < added then ((s.drawLevel t added).starveIfEmpty t [n]).settle else s
  | none => s

/-- The agitator on which a report of `added` finds or leaves line `n` starved (R96). -/
def State.starvedOn (s : State) (n : LineId) (added : Nat) : Option AgitatorId :=
  match (s.line n).draw with
  | some t => if 0 < added ∧ (s.tank t).level ≤ added then some t else none
  | none => none

/-- The thickening of step 15: the pending mix set and THICKEN raised (R72). -/
def State.thickenLine (s : State) (n : LineId) (k : MixNo) : State :=
  (s.updLine n fun l => { l with pendingMix := some k }).lineEvent n .thicken (some (.num k))

/-- The work on a sample of an INJECTING line: the computation, the latch, the draw report, and the stage end or the
thickening (R46, R74). -/
def State.injectWork (s : State) (n : LineId) (t : StageTables) (pc pulses : Nat) : Worked :=
  let l := s.line n
  let c := s.compute t pc pulses l
  let selected := l.settings.holdon.selects c.stepped c.rateHoldOn
  let tested := l.latch.tests selected
  let s1 := s.setLine n { c.line with latch := l.latch.sample l.settings selected c.pe }
  let s1 := if c.overpressure then s1.lineEvent n .overpressure (some (.num c.pe)) (some (.num c.limit)) else s1
  let s2 := s1.reportDraw n c.added
  let s3 := match c.ended, c.thicken with
    | some r, _ => s2.stageEnd n r
    | none, some k => s2.thickenLine n k
    | none, none => s2
  { st := s3
    notes := (if c.stepped then [.profileStep] else []) ++ (if c.ended = some .refusal then [.refusal] else []) ++
      (if l.latch.periodEnds selected then [.dropReferenceTaken] else []) ++
      (if l.latch.holdOffEnds selected then [.holdOffEnd] else [])
    overp := c.overpressure && l.settings.checks.overp
    drop := if tested && l.latch.dropHolds l.settings c.pe then l.latch.reference.map fun r => (c.pe, r) else none
    surge := if tested && l.latch.surgeHolds l.settings c.pe then l.latch.reference.map fun r => (c.pe, r) else none
    starving := s1.starvedOn n c.added
    told := s2.plantTold s3
    moved := decide (0 < c.added) }

/-- The line controller's work on a sample: the computation in INJECTING, the timed states' work elsewhere. -/
def State.lineWork (s : State) (n : LineId) (pc packer pulses : Nat) : Worked :=
  match (s.line n).state, s.stageTables (s.line n) with
  | .injecting, some t => s.injectWork n t pc pulses
  | _, _ =>
    { st := (s.timedWork n pc packer).1
      notes := (s.timedWork n pc packer).2
      overp := false, drop := none, surge := none, starving := none, told := false, moved := false }

/-- The other lines that are INJECTING (R146). -/
def State.othersInjecting (s : State) (n : LineId) : List LineId := (s.linesIn .injecting).filter (· != n)

/-- The packer and communication checks on line `n`, in the state that the line controller's work left it in: counts and
marks updated (R145, R146). -/
def State.checkLine (s : State) (n : LineId) (pc packer : Nat) : State :=
  let others := !(s.othersInjecting n).isEmpty
  s.updLine n fun l =>
    { l with latch := (l.latch.packerCheck l.settings l.state packer).commCheck l.settings l.state pc l.seatRef others }

/-- The detections of the packer check on line `n` (R145). -/
def State.packerFound (s : State) (n : LineId) (packer : Nat) : Option (Nat × Int) :=
  let l := s.line n
  if l.latch.packerRaises l.settings l.state packer then some (packer, packerThreshold l.settings) else none

/-- The detections of the communication check on line `n` (R146). -/
def State.commFound (s : State) (n : LineId) (pc : Nat) : Option (Nat × List LineId) :=
  let l := s.line n
  if l.latch.commRaises l.settings l.state pc l.seatRef (!(s.othersInjecting n).isEmpty) then
    some (pc, s.othersInjecting n)
  else none

/-- The notices of the plant coordinator that the sample called forth reach the line between samples: its own STARVED
request, then the settling that a pending mix set or cleared brings; the report itself has had its own (R46, R96, R114). -/
def State.plantNotices (s : State) (n : LineId) (starving told : Bool) : State :=
  let t := if starving then s.pauseRequest .starved n else s
  if told then t.settle else s.settleIfTold t

/-- The circulation unit's work on a sample of line `n`: the age and the run count, then fouling, the end of a run, or a run
that falls due (R156 to R159, R163). A run that a tare had deferred before this sample, which ends the tare, may be left to the
line's next sample event: R17 and R159 differ there, and Config.deferredRunWaits stands for what the part does. -/
def State.circulateLine (s : State) (n : LineId) (hadAge ran movement deferred : Bool) : State × List Note :=
  let s := if hadAge then s.updLine n fun l => { l with circ := l.circ.sample movement ran (l.key == .locl) } else s
  let l := s.line n
  if s.atAgeLimit l then ((s.foulLine n).settle, [.fouled])
  else if s.runIsOver l ran then ((s.updLine n Line.endRun).settle, [.runEnd])
  else if s.runFallsDue l && !(deferred && Config.deferredRunWaits) then (s.startOrBlock n, [.runDue])
  else (s, [])

/-- How many inputs raise SENSOR on a sample of a line (R4). -/
def Line.sensorsRaised (l : Line) (x : Sample) : Nat :=
  (l.inputs.collar.raisesSensor l.settings.cspan x.collar).toNat + (l.inputs.packer.raisesSensor l.settings.pspan x.packer).toNat

/-- A tare run ends on a sample of a line, complete or not, which the plant coordinator settles after (R114). -/
def Line.tareEnds (l : Line) (x : Sample) : Bool :=
  match tareOutcome (scaleCurrent l.settings.cspan x.collar) l.inputs.tare with
  | .complete _ | .ended => true
  | _ => false

/-- A tare run completes on a sample of a line (R15). -/
def Line.tareCompletes (l : Line) (x : Sample) : Bool :=
  match tareOutcome (scaleCurrent l.settings.cspan x.collar) l.inputs.tare with
  | .complete _ => true
  | _ => false

/-- Parts (a) to (e) of R1, with the settling that the end of a tare brings. -/
def State.measured (s : State) (n : LineId) (x : Sample) : State :=
  if (s.line n).tareEnds x then (s.measure n x).settle else s.measure n x

/-- One sample event of line `n`, whole: measurement, the line controller's work, the response unit's checks, the notices
and actions that follow, the circulation unit's work, and the pump driven (R1, R20, R46, R151, R156). -/
def State.lineSampleNoted (s : State) (n : LineId) (x : Sample) : State × List Note :=
  let l := s.line n
  let pc := l.inputs.samplePc l.settings x
  let packer := (l.inputs.packer.sample l.settings.pspan x.packer).value
  let s1 := s.measured n x
  let w := s1.lineWork n pc packer x.pulses
  let packerFound := w.st.packerFound n packer
  let s2 := (w.st.checkLine n pc packer).plantNotices n w.starving.isSome w.told
  let s3 := s2.takeDetections n
    { sensors := l.sensorsRaised x, overp := w.overp, drop := w.drop, surge := w.surge, packer := packerFound
      comm := w.st.commFound n pc }
  let c := s3.circulateLine n l.circ.age.isSome l.circ.running (l.circ.running || w.moved) (s.runDeferred l)
  (c.1.drivePump n,
    (if 0 < l.sensorsRaised x then [.sensor] else []) ++ (if l.tareCompletes x then [.tareDone] else []) ++ w.notes ++
    (if packerFound.isSome then [.packerLow] else []) ++ c.2)

/-- The state that a sample event of line `n` leaves. -/
def State.lineSample (s : State) (n : LineId) (x : Sample) : State := (s.lineSampleNoted n x).1

/-- The event `e` comes about on a sample of line `n`. -/
def State.lineNotes (s : State) (n : LineId) (x : Sample) (e : Note) : Bool := (s.lineSampleNoted n x).2.contains e

/-- The sample event of line `n` on which the named event `e` comes about; where `e` does not come about on that sample there
is no such event, and the state stands (notes/assumptions/1.md). -/
def State.lineSampleWith (s : State) (n : LineId) (x : Sample) (e : Note) : State :=
  if s.lineNotes n x e then s.lineSample n x else s

/-! ## A gauge sample event (R130) -/

/-- GAUGE FAULT and GAUGE RESTORED of a sample that found the gauge at `q` (R131). -/
def State.gaugeCountEvents (s : State) (g : GaugeId) (current : Nat) (q : Gauge) : State :=
  if q.raisesFault current then s.plantEvent .gaugeFault (some (.gauge g)) (some (.num current))
  else if q.raisesRestored current then s.plantEvent .gaugeRestored (some (.gauge g)) (some (.num (s.gauge g).heave))
  else s

/-- The relative heave is reported to each INJECTING line of the watcher set (R130 step 6, R132). -/
def State.reportHeave (s : State) (g : GaugeId) : State :=
  (s.watchers g).foldl (fun t n => t.updLine n (Line.reportHeave (s.gauge g).relative)) s

/-- The state tests of step 7 and what entering WARN or ALARM brings (R133, R134). -/
def State.testGauge (s : State) (g : GaugeId) : State :=
  let q := s.gauge g
  let s' := s.setGauge g { q with state := q.tested }
  if q.tested = .alarm ∧ q.state ≠ .alarm then
    let s' := s'.plantEvent .upliftAlarm (some (.gauge g)) (some (.num q.relative)) (some (.lines (s.watchers g)))
    s'.settleIfTold (s'.pauseLines (s.watchers g) .uplift)
  else if q.tested = .warn ∧ q.state = .watch then
    s'.plantEvent .upliftWarn (some (.gauge g)) (some (.num q.relative))
  else s'

/-- One sample event of gauge `g`; an OFF gauge has none (R130). -/
def State.gaugeSampleNoted (s : State) (g : GaugeId) (current : Nat) : State × List Note :=
  let q := s.gauge g
  if q.state = .off then (s, [])
  else
    let s1 := (s.setGauge g (q.classify (!(s.watchers g).isEmpty) current)).gaugeCountEvents g current q
    let s2 := (s1.updGauge g Gauge.raiseMaximum).reportHeave g
    (s2.testGauge g,
      (if q.raisesFault current then [.gaugeFault] else []) ++ (if q.raisesRestored current then [.gaugeRestored] else []))

/-- The state that a sample event of gauge `g` leaves. -/
def State.gaugeSample (s : State) (g : GaugeId) (current : Nat) : State := (s.gaugeSampleNoted g current).1

/-- The gauge sample event on which the named event `e` comes about (notes/assumptions/1.md). -/
def State.gaugeSampleWith (s : State) (g : GaugeId) (current : Nat) (e : Note) : State :=
  if (s.gaugeSampleNoted g current).2.contains e then s.gaugeSample g current else s

/-! ## A part-clock second (R176) -/

/-- The counts that a part-clock second advances: the clock, both stagger counts, and the phase timer of a mixer that is not
IDLE (R104, R106, R111, R176). -/
def State.advanceSecond (s : State) : State :=
  { s with
    clock := s.clock + 1
    tankA := { s.tankA with stagger := satAdd Config.staggerCeiling s.tankA.stagger 1 }
    tankB := { s.tankB with stagger := satAdd Config.staggerCeiling s.tankB.stagger 1 }
    phaseTimer := if s.mixer = .idle then s.phaseTimer else s.phaseTimer + 1 }

/-- The end of the mixer's phase, where its timer has reached DUMPT or BATCHT, each followed by its settling (R104, R105). -/
def State.endPhase (s : State) : State × List Note :=
  match s.mixer with
  | .waiting t r => if s.plant.dumpt ≤ s.phaseTimer then ((s.endDump t r).settle, [.dumpEnd]) else (s, [])
  | .mixing t r => if s.plant.batcht ≤ s.phaseTimer then ((s.deliver t r).settle, [.batchDone]) else (s, [])
  | .idle => (s, [])

/-- One part-clock second and the settling that follows it (R114, R176). On a second that ends the mixer's phase all the counts
are advanced first, then the phase ends and the plant settles, and the second's own settling comes last: the spec gives these
no order (DESIGN CHOICE, notes/assumptions/34.md). -/
def State.secondNoted (s : State) : State × List Note :=
  (s.advanceSecond.endPhase.1.settle, s.advanceSecond.endPhase.2)

/-- The state that a part-clock second leaves. -/
def State.second (s : State) : State := s.secondNoted.1

/-- The part-clock second on which the named event `e` comes about (notes/assumptions/1.md). -/
def State.secondWith (s : State) (e : Note) : State := if s.secondNoted.2.contains e then s.second else s

end Sys2Proof.Machine
end

