-- ==== Sys2Proof/Machine/Events.lean ====
section
/-! DEFINITION. The meanings of the commands that are no orders: power-on, the configuration key, the site-stop loop, the
lockout keys, the sample events, the part-clock second and the named events (notes/assumptions/1.md). -/

namespace Sys2Proof.Machine

/-! ## Power-on, keys and loop -/

/-- POWER_ON: the power-on condition with the switches as read; the commands that wait are outside the part (R18, R153,
R155, R169). -/
def execPowerOn (w : Switches) (s : State) : Host.Outcome State Fault Refusal :=
  .next { State.atPowerOn w with pending := s.pending }

/-- CONFIGURATION_KEY_TURN (R169). -/
def execConfigurationKeyTurn (p : ConfigKey) (s : State) : Host.Outcome State Fault Refusal := .next { s with config := p }

/-- Every line's pump output is driven to 0 (R152). -/
def State.stopPumps (s : State) : State :=
  allLines.foldl (fun t n => t.updLine n fun l => { l with fig := { l.fig with pumpRate := 0 } }) s

/-- The site-stop loop opens (R152); the plant settles where a queue is left or a run ends with it (R114). -/
def State.openLoop (s : State) : State :=
  let t := { s with loop := .opened }
  let t := t.stopPumps.pauseLines allLines .siteStop
  s.settleIfTold ((t.endRuns allLines).plantEvent .siteStop none)

/-- SITE_STOP_OPEN: an open loop opens no further. -/
def execSiteStopOpen (s : State) : Host.Outcome State Fault Refusal :=
  .next (if s.loop = .closed then s.openLoop else s)

/-- The site-stop loop closes: the pumps are driven as R20 gives, SITE CLEAR is placed (R153). -/
def State.closeLoop (s : State) : State :=
  (allLines.foldl State.drivePump { s with loop := .closed }).plantEvent .siteClear none

/-- SITE_STOP_CLOSE: a closed loop closes no further. -/
def execSiteStopClose (s : State) : Host.Outcome State Fault Refusal :=
  .next (if s.loop = .opened then s.closeLoop else s)

/-- Line `n`'s lockout key is turned to LOCAL (R154); the plant settles where a queue is left or a run ends with it (R114). -/
def State.lockLine (s : State) (n : LineId) : State :=
  let t := s.updLine n fun l => { l with key := .locl }
  let t := (t.pauseRequest .locl n).stopIfFrozen n
  s.settleIfTold ((t.updLine n Line.endRun).lineEvent n .key (some (.key .locl)))

/-- KEY_TO_LOCAL: a key at LOCAL turns no further. -/
def execKeyToLocal (n : LineId) (s : State) : Host.Outcome State Fault Refusal :=
  .next (if (s.line n).key = .remote then s.lockLine n else s)

/-- Line `n`'s lockout key is turned to REMOTE (R155). -/
def State.unlockLine (s : State) (n : LineId) : State :=
  (s.updLine n fun l => { l with key := .remote }).lineEvent n .key (some (.key .remote))

/-- KEY_TO_REMOTE: a key at REMOTE turns no further. -/
def execKeyToRemote (n : LineId) (s : State) : Host.Outcome State Fault Refusal :=
  .next (if (s.line n).key = .locl then s.unlockLine n else s)

/-! ## Line sample events -/

/-- LINE_SAMPLE_EVENT (R1). -/
def execLineSampleEvent (n : LineId) (x : Sample) (s : State) : Host.Outcome State Fault Refusal := .next (s.lineSample n x)

/-- SENSOR: the line sample on which it comes about (R4). -/
def execSensor (n : LineId) (x : Sample) (s : State) : Host.Outcome State Fault Refusal := .next (s.lineSampleWith n x .sensor)

/-- TARE_DONE: the line sample on which it comes about (R15). -/
def execTareDone (n : LineId) (x : Sample) (s : State) : Host.Outcome State Fault Refusal := .next (s.lineSampleWith n x .tareDone)

/-- PRIMED: the line sample on which it comes about (R24). -/
def execPrimed (n : LineId) (x : Sample) (s : State) : Host.Outcome State Fault Refusal := .next (s.lineSampleWith n x .primed)

/-- SEATED: the line sample on which it comes about (R26). -/
def execSeated (n : LineId) (x : Sample) (s : State) : Host.Outcome State Fault Refusal := .next (s.lineSampleWith n x .seated)

/-- SEAT_FAIL: the line sample on which it comes about (R27). -/
def execSeatFail (n : LineId) (x : Sample) (s : State) : Host.Outcome State Fault Refusal := .next (s.lineSampleWith n x .seatFail)

/-- SHUT_IN_END: the line sample on which it comes about (R36). -/
def execShutInEnd (n : LineId) (x : Sample) (s : State) : Host.Outcome State Fault Refusal := .next (s.lineSampleWith n x .shutInEnd)

/-- DECAYED: the line sample on which it comes about (R37). -/
def execDecayed (n : LineId) (x : Sample) (s : State) : Host.Outcome State Fault Refusal := .next (s.lineSampleWith n x .decayed)

/-- DECAY_SLOW: the line sample on which it comes about (R38). -/
def execDecaySlow (n : LineId) (x : Sample) (s : State) : Host.Outcome State Fault Refusal := .next (s.lineSampleWith n x .decaySlow)

/-- RELEASED: the line sample on which it comes about (R40). -/
def execReleased (n : LineId) (x : Sample) (s : State) : Host.Outcome State Fault Refusal := .next (s.lineSampleWith n x .released)

/-- DEFLATE_SLOW: the line sample on which it comes about (R40). -/
def execDeflateSlow (n : LineId) (x : Sample) (s : State) : Host.Outcome State Fault Refusal := .next (s.lineSampleWith n x .deflateSlow)

/-- WASHED: the line sample on which it comes about (R44). -/
def execWashed (n : LineId) (x : Sample) (s : State) : Host.Outcome State Fault Refusal := .next (s.lineSampleWith n x .washed)

/-- PROFILE_STEP: the line sample on which it comes about (R59). -/
def execProfileStep (n : LineId) (x : Sample) (s : State) : Host.Outcome State Fault Refusal := .next (s.lineSampleWith n x .profileStep)

/-- REFUSAL: the line sample on which it comes about (R65). -/
def execRefusal (n : LineId) (x : Sample) (s : State) : Host.Outcome State Fault Refusal := .next (s.lineSampleWith n x .refusal)

/-- DROP_REFERENCE_TAKEN: the line sample on which it comes about (R142). -/
def execDropReferenceTaken (n : LineId) (x : Sample) (s : State) : Host.Outcome State Fault Refusal := .next (s.lineSampleWith n x .dropReferenceTaken)

/-- HOLD_OFF_END: the line sample on which it comes about (R143). -/
def execHoldOffEnd (n : LineId) (x : Sample) (s : State) : Host.Outcome State Fault Refusal := .next (s.lineSampleWith n x .holdOffEnd)

/-- PACKER_LOW: the line sample on which it comes about (R145). -/
def execPackerLow (n : LineId) (x : Sample) (s : State) : Host.Outcome State Fault Refusal := .next (s.lineSampleWith n x .packerLow)

/-- FOULED: the line sample on which it comes about (R163). -/
def execFouled (n : LineId) (x : Sample) (s : State) : Host.Outcome State Fault Refusal := .next (s.lineSampleWith n x .fouled)

/-- CIRCULATION_RUN_DUE: the line sample on which it comes about (R159). -/
def execCirculationRunDue (n : LineId) (x : Sample) (s : State) : Host.Outcome State Fault Refusal := .next (s.lineSampleWith n x .runDue)

/-- CIRCULATION_RUN_END: the line sample on which it comes about (R158). -/
def execCirculationRunEnd (n : LineId) (x : Sample) (s : State) : Host.Outcome State Fault Refusal := .next (s.lineSampleWith n x .runEnd)

/-! ## Gauge sample events -/

/-- GAUGE_SAMPLE_EVENT (R130). -/
def execGaugeSampleEvent (g : GaugeId) (current : Nat) (s : State) : Host.Outcome State Fault Refusal :=
  .next (s.gaugeSample g current)

/-- GAUGE_FAULT: the gauge sample on which it comes about (R131). -/
def execGaugeFault (g : GaugeId) (current : Nat) (s : State) : Host.Outcome State Fault Refusal :=
  .next (s.gaugeSampleWith g current .gaugeFault)

/-- GAUGE_RESTORED: the gauge sample on which it comes about (R131). -/
def execGaugeRestored (g : GaugeId) (current : Nat) (s : State) : Host.Outcome State Fault Refusal :=
  .next (s.gaugeSampleWith g current .gaugeRestored)

/-! ## The part clock and the plant -/

/-- PART_CLOCK_SECOND (R176). -/
def execPartClockSecond (s : State) : Host.Outcome State Fault Refusal := .next s.second

/-- DUMP_END: the part-clock second on which it comes about (R104). -/
def execDumpEnd (s : State) : Host.Outcome State Fault Refusal := .next (s.secondWith .dumpEnd)

/-- BATCH_DONE: the part-clock second on which it comes about (R105). -/
def execBatchDone (s : State) : Host.Outcome State Fault Refusal := .next (s.secondWith .batchDone)

/-- SWITCHOVER: line `n` is examined now; where it switches over, the settling follows (R107, R114). -/
def execSwitchover (n : LineId) (s : State) : Host.Outcome State Fault Refusal :=
  .next (if (s.switchDue n).isSome then (s.switchExamines n).settle else s)

/-- The examination of the queue made now finds a request to take (R103). -/
def State.mixerTakes (s : State) : Bool :=
  match s.mixer with
  | .idle => (s.examine s.batchQueue).2.isSome
  | _ => false

/-- MIXER_TAKES_REQUEST: the queue is examined now, where the mixer takes a request (R103). -/
def execMixerTakesRequest (s : State) : Host.Outcome State Fault Refusal :=
  .next (if s.mixerTakes then s.mixerExamines else s)

/-- START_GRANT: the head of agitator `a`'s start queue is examined now; where it is granted, the settling follows (R110,
R111). -/
def execStartGrant (a : AgitatorId) (s : State) : Host.Outcome State Fault Refusal :=
  .next (if (s.grantDue a).isSome then (s.grantExamines a).settle else s)

end Sys2Proof.Machine
end

