-- ==== Sys2Proof/Machine/Words.lean ====
section
/-! DEFINITION. The words of replies, as R167 writes names (the words of a longer name joined by hyphens), and the fields of
the read replies that blocks other than the order line own. -/

namespace Sys2Proof.Machine

/-- A word field. -/
def wordField (w : String) : Field := .word w.toList

/-- An optional item: its field, or a minus sign while it is absent (R167). -/
def optField {α : Type} (f : α → Field) : Option α → Field
  | some x => f x
  | none => .absent

/-- A number field of a natural number. -/
def natField (n : Nat) : Field := .num n

/-- The name of a line state (2.3). -/
def stateName : LineState → String
  | .dry => "DRY"
  | .priming => "PRIMING"
  | .primed => "PRIMED"
  | .seating => "SEATING"
  | .seated => "SEATED"
  | .armed => "ARMED"
  | .injecting => "INJECTING"
  | .paused => "PAUSED"
  | .shutIn => "SHUT-IN"
  | .decaying => "DECAYING"
  | .releasing => "RELEASING"
  | .washing => "WASHING"
  | .fouled => "FOULED"

/-- The letter of a line state (2.3). -/
def stateLetter : LineState → Char
  | .dry => 'D'
  | .priming => 'F'
  | .primed => 'P'
  | .seating => 's'
  | .seated => 'S'
  | .armed => 'A'
  | .injecting => 'J'
  | .paused => 'H'
  | .shutIn => 'N'
  | .decaying => 'Y'
  | .releasing => 'R'
  | .washing => 'W'
  | .fouled => 'X'

/-- The name of a pause cause (2.1.1). -/
def causeName : PauseCause → String
  | .order => "ORDER"
  | .uplift => "UPLIFT"
  | .siteStop => "SITE-STOP"
  | .locl => "LOCAL"
  | .starved => "STARVED"
  | .sensor => "SENSOR"
  | .protect => "PROTECT"
  | .power => "POWER"
  | .age => "AGE"

/-- The name of an end reason (2.1.1). -/
def endReasonName : EndReason → String
  | .refusal => "REFUSAL"
  | .volume => "VOLUME"
  | .intensity => "INTENSITY"
  | .ordered => "ORDERED"
  | .protect => "PROTECT"
  | .aborted => "ABORTED"
  | .fouled => "FOULED"

/-- The name of a lockout key position. -/
def keyName : LockKey → String
  | .remote => "REMOTE"
  | .locl => "LOCAL"

/-- The name of an agitator. -/
def tankName : AgitatorId → String
  | .tankA => "A"
  | .tankB => "B"

/-- The name of an event kind (2.14, R75, R113, R138, 8.8). -/
def eventName : EventKind → String
  | .sensor => "SENSOR"
  | .tareDone => "TARE-DONE"
  | .tareFail => "TARE-FAIL"
  | .primed => "PRIMED"
  | .seated => "SEATED"
  | .seatFail => "SEAT-FAIL"
  | .started => "STARTED"
  | .paused => "PAUSED"
  | .ended => "ENDED"
  | .decayed => "DECAYED"
  | .decaySlow => "DECAY-SLOW"
  | .released => "RELEASED"
  | .deflateSlow => "DEFLATE-SLOW"
  | .aborted => "ABORTED"
  | .washed => "WASHED"
  | .overpressure => "OVERPRESSURE"
  | .thicken => "THICKEN"
  | .agitatorEmpty => "AGITATOR-EMPTY"
  | .batchDone => "BATCH-DONE"
  | .mixSwitch => "MIX-SWITCH"
  | .upliftWarn => "UPLIFT-WARN"
  | .upliftAlarm => "UPLIFT-ALARM"
  | .upliftClear => "UPLIFT-CLEAR"
  | .gaugeFault => "GAUGE-FAULT"
  | .gaugeRestored => "GAUGE-RESTORED"
  | .drop => "DROP"
  | .surge => "SURGE"
  | .packerLow => "PACKER-LOW"
  | .communication => "COMMUNICATION"
  | .key => "KEY"
  | .siteStop => "SITE-STOP"
  | .siteClear => "SITE-CLEAR"
  | .circBlocked => "CIRC-BLOCKED"
  | .fouled => "FOULED"

/-- The reason word of a NO reply (R166, R168). -/
def reasonName : Reason → String
  | .name => "NAME"
  | .form => "FORM"
  | .range => "RANGE"
  | .key => "KEY"
  | .state => "STATE"
  | .locked => "LOCKED"
  | .stopped => "STOPPED"
  | .busy => "BUSY"
  | .full => "FULL"
  | .exists => "EXISTS"
  | .absent => "ABSENT"
  | .hole => "HOLE"
  | .order => "ORDER"
  | .gauge => "GAUGE"
  | .pending => "PENDING"
  | .low => "LOW"
  | .empty => "EMPTY"
  | .mix => "MIX"
  | .pressure => "PRESSURE"
  | .sensor => "SENSOR"
  | .line => "LINE"
  | .long => "LONG"

/-- An agitator's state in STATUS, the receive kind joined to it (R171). -/
def tankStateName : TankState → String
  | .empty => "EMPTY"
  | .ready => "READY"
  | .dumping => "DUMPING"
  | .receivingTopup => "RECEIVING-TOPUP"
  | .receivingChange => "RECEIVING-CHANGE"

/-- An agitator's state and receive kind as the two items of PLANT (R92, R112). -/
def tankStateFields : TankState → List Field
  | .empty => [wordField "EMPTY", .absent]
  | .ready => [wordField "READY", .absent]
  | .dumping => [wordField "DUMPING", .absent]
  | .receivingTopup => [wordField "RECEIVING", wordField "TOPUP"]
  | .receivingChange => [wordField "RECEIVING", wordField "CHANGE"]

/-- The mixer's state (5.5). -/
def mixerName : Mixer → String
  | .idle => "IDLE"
  | .waiting _ _ => "WAITING"
  | .mixing _ _ => "MIXING"

/-- A gauge's state (R128). -/
def gaugeStateName : GaugeState → String
  | .off => "OFF"
  | .idle => "IDLE"
  | .watch => "WATCH"
  | .warn => "WARN"
  | .alarm => "ALARM"
  | .fault => "FAULT"

/-- The value of METHOD (R121). -/
def methodName : Method → String
  | .down => "DOWN"
  | .up => "UP"

/-- The word of a kind of detection in RESPONSE (R148). -/
def detectionName : DetectionKind → String
  | .drop => "DROP"
  | .surge => "SURGE"
  | .overp => "OVER"
  | .packer => "PACKER"
  | .comm => "COMM"
  | .sensor => "SENSOR"

/-- The word of an action (R148). -/
def actionName : Action → String
  | .report => "REPORT"
  | .pause => "PAUSE"
  | .endStage => "END"
  | .group => "GROUP"
  | .all => "ALL"

/-- The field names of SET for a line (2.2, R140). -/
def lineNumberName : LineNumber → String
  | .hose => "HOSE"
  | .pulse => "PULSE"
  | .cspan => "CSPAN"
  | .pspan => "PSPAN"
  | .seatp => "SEATP"
  | .gain => "GAIN"
  | .slew => "SLEW"
  | .rmax => "RMAX"
  | .crate => "CRATE"
  | .primet => "PRIMET"
  | .washt => "WASHT"
  | .shutin => "SHUTIN"
  | .relp => "RELP"
  | .drop => "DROP"
  | .dfloor => "DFLOOR"
  | .surge => "SURGE"
  | .comm => "COMM"
  | .pmargin => "PMARGIN"

/-- The field names of SET for an agitator (R93). -/
def tankSettingName : AgitatorSetting → String
  | .cap => "CAP"
  | .low => "LOW"

/-- The field names of SET PLANT (R93). -/
def plantSettingName : PlantSetting → String
  | .dumpt => "DUMPT"
  | .batcht => "BATCHT"
  | .batchv => "BATCHV"
  | .stagger => "STAGGER"

/-- The field names of SET PLANT for circulation (R161). -/
def circSettingName : CircSetting → String
  | .circi => "CIRCI"
  | .circd => "CIRCD"

/-- The field names of SET for a gauge (R129). -/
def gaugeSettingName : GaugeSetting → String
  | .on => "ON"
  | .span => "SPAN"
  | .warn => "WARN"
  | .alarm => "ALARM"
  | .hyst => "HYST"

/-- Names joined by commas, or NONE where there are none (R167, R170). -/
def joinNames : List String → Text
  | [] => "NONE".toList
  | [w] => w.toList
  | w :: ws => w.toList ++ ',' :: joinNames ws

/-- The members of CHECKS as one field (R140, R170). DESIGN CHOICE (notes/assumptions/32.md): in the order of R140's table; the
spec gives the written set no order. -/
def checksField (c : Checks) : Field :=
  .word (joinNames ((if c.drop then ["DROP"] else []) ++ (if c.surge then ["SURGE"] else []) ++
    (if c.overp then ["OVER"] else []) ++ (if c.packer then ["PACKER"] else []) ++ (if c.comm then ["COMM"] else [])))

/-- The members of HOLDON as one field (R140, R170). DESIGN CHOICE (notes/assumptions/32.md): in the order of R140's table; the
spec gives the written set no order. -/
def holdOnField (h : HoldOn) : Field :=
  .word (joinNames ((if h.switch then ["SWITCH"] else []) ++ (if h.step then ["STEP"] else []) ++
    (if h.rate then ["RATE"] else [])))

/-- A set of lines as one field (R167). -/
def linesField (ns : List LineId) : Field := .nums (ns.map (·.val))

/-- A list of gauges as one field (R167). -/
def gaugesField (gs : List GaugeId) : Field := .nums (gs.map (·.val))

/-- The decimal digits of a number, with a leading minus sign where it is negative (R167). -/
def intText (i : Int) : Text :=
  match i with
  | .ofNat n => Nat.toDigits 10 n
  | .negSucc n => '-' :: Nat.toDigits 10 (n + 1)

/-- The numbers of a list, in decimal digits, joined by commas. -/
def joinNumbers : List Nat → Text
  | [] => "NONE".toList
  | [n] => Nat.toDigits 10 n
  | n :: ns => Nat.toDigits 10 n ++ ',' :: joinNumbers ns

/-- A reply field as R167 writes it on the line. -/
def fieldText : Field → Text
  | .num i => intText i
  | .absent => ['-']
  | .flag b => if b then ['1'] else ['0']
  | .nums l => joinNumbers l
  | .word w => w

/-- A reply as it is sent: OK and its fields, or NO and the reason, ended by carriage return and line feed (R167). -/
def replyText : Reply → Text
  | .ok fs => "OK".toList ++ (fs.flatMap fun f => ' ' :: fieldText f) ++ ['\r', '\n']
  | .no r => "NO ".toList ++ (reasonName r).toList ++ ['\r', '\n']

/-! ## Fields of the read replies -/

/-- The subject of an event: a line as L and its number, a gauge as G and its number, an agitator as A or B (R167). -/
def subjectField : Subject → Field
  | .line n => .word ('L' :: Nat.toDigits 10 n.val)
  | .gauge g => .word ('G' :: Nat.toDigits 10 g.val)
  | .tank t => wordField (tankName t)

/-- A value of an event. -/
def valueField : EventValue → Field
  | .num i => .num i
  | .cause c => wordField (causeName c)
  | .reason r => wordField (endReasonName r)
  | .state st => wordField (stateName st)
  | .key k => wordField (keyName k)
  | .tank t => wordField (tankName t)
  | .lines ns => linesField ns

/-- An entry of a hold as POLL's five fields: kind, clock, subject, value and second value (R174). -/
def eventFields (e : Event) : List Field :=
  [wordField (eventName e.kind), natField e.clock.toNat, optField subjectField e.subject, optField valueField e.value,
    optField valueField e.second]

/-- The origin of a batch request; a line is written L and its number (R172). -/
def originField : Origin → Field
  | .auto => wordField "AUTO"
  | .line n => .word ('L' :: Nat.toDigits 10 n.val)
  | .order => wordField "ORDER"

/-- A batch request as four fields: agitator, mix, kind and origin (R172). -/
def requestFields (r : Request) : List Field :=
  [match r.tank with
    | .one t => wordField (tankName t)
    | .any => wordField "ANY",
   natField r.mix,
   match r.kind with
    | .topup => wordField "TOPUP"
    | .change => wordField "CHANGE",
   originField r.origin]

/-- The status of a stage record, with its line number when it is SEATED-ON (R118). -/
def statusFields : StageStatus → List Field
  | .opened => [wordField "OPEN"]
  | .seatedOn n => [wordField "SEATED-ON", natField n.val]
  | .done => [wordField "DONE"]

/-- The fields of a stage record with the mark of its stage, in the order of R118. -/
def recordFields (r : StageRecord) (mark : Bool) : List Field :=
  [.word r.hole, natField r.stage, natField r.top, natField r.bottom, gaugesField r.gauges] ++ statusFields r.status ++
  [natField r.interrupted, natField r.regrouts, .flag mark]

/-- The fields of a stage result, in the order of R175. -/
def resultFields (r : StageResult) : List Field :=
  [.word r.hole, natField r.stage, natField r.line.val, natField r.startClock.toNat, natField r.endClock.toNat,
    wordField (endReasonName r.reason), natField r.volume, natField r.take, natField r.maxPe, natField r.finalPe,
    natField r.finalG, .nums r.mixes, natField r.mixChanges, natField r.pauses, .flag r.regrout, optField natField r.heave]

end Sys2Proof.Machine
end

