-- ==== Sys2Proof/Machine/SetOrders.lean ====
section
/-! DEFINITION. The orders of SET (R19, R93, R121, R129, R140, R161) and its read form (R170). Each is an engineer order: KEY
is checked before RANGE (R168), and the owner's checks follow in the order its rule gives. -/

namespace Sys2Proof.Machine

/-! ## The checks every order shares -/

/-- An engineer order: refused with KEY unless the configuration key is in ENABLE, else judged as `t` (R168, R169). -/
def State.engineer (s t : State) : State := if s.config = .enable then t else s.refuse .key

/-- An index or word field: refused with RANGE where it is outside its numbering or set, else judged as `f` (R168). -/
def State.withIndex {α : Type} (s : State) (i : Option α) (f : α → State) : State :=
  match i with
  | some x => f x
  | none => s.refuse .range

/-! ## SET Ln -/

/-- The value lies in the range of what it sets; a set names each of its members once (R19, R140). -/
def lineChangeValid : LineChange → Bool
  | .number f v => inRange (lineRange f).1 (lineRange f).2 v
  | .checks (some ms) => decide ms.Nodup
  | .holdon (some ms) => decide ms.Nodup
  | .checks none | .holdon none | .unknown => false

/-- The change is one that only a line in DRY or FOULED takes (2.2, R19). -/
def changesAtRestOnly : LineChange → Bool
  | .number f _ => restOnly f
  | _ => false

/-- The counts and marks of the checks that a new CHECKS no longer contains are cleared (R140). -/
def Latch.dropChecks (c : Checks) (k : Latch) : Latch :=
  { k with
    dropMark := k.dropMark && c.drop
    surgeMark := k.surgeMark && c.surge
    packerCount := if c.packer then k.packerCount else 0
    packerMark := k.packerMark && c.packer
    commMark := k.commMark && c.comm }

/-- A line setting takes a new value; an RMAX below the pump rate of an INJECTING line reduces that rate at once (R19). DESIGN
CHOICE (notes/assumptions/33.md): the new value stands at once, so an order or another act taken before the line's next sample
uses it. -/
def Line.setNumber (f : LineNumber) (v : Nat) (l : Line) : Line :=
  { l with
    settings := putLineNumber l.settings f v
    fig := { l.fig with
      pumpRate := if f = .rmax ∧ l.state = .injecting then min v l.fig.pumpRate else l.fig.pumpRate } }

/-- The change of a line setting (R19, R140). -/
def Line.change (v : LineChange) (l : Line) : Line :=
  match v with
  | .number f x => l.setNumber f x
  | .checks (some ms) =>
    { l with settings := { l.settings with checks := checksOf ms }, latch := l.latch.dropChecks (checksOf ms) }
  | .holdon (some ms) => { l with settings := { l.settings with holdon := holdOnOf ms } }
  | .checks none | .holdon none | .unknown => l

/-- SET Ln field value (R19). -/
def orderSetLine (n : Nat) (v : LineChange) (s : State) : State :=
  s.engineer <| s.withIndex (lineOf n) fun n =>
    s.judge [(!lineChangeValid v, .range), (changesAtRestOnly v && !(s.line n).atRest, .state)] (s.updLine n (Line.change v))

/-! ## SET A, SET B and SET PLANT of the plant coordinator -/

/-- The checks of SET A and SET B: the range, CAP against LOW, and CAP against the level (R93). -/
def tankSetChecks (k : Tank) : AgitatorSetting → Nat → List (Bool × Reason)
  | .cap, v => [(!inRange 100 3000 v || decide (v ≤ k.low), .range), (decide (v * 1000 < k.level), .state)]
  | .low, v => [(!inRange 0 2999 v || decide (k.cap ≤ v), .range)]

/-- An agitator setting given a new value. -/
def putTank (k : Tank) (f : AgitatorSetting) (v : Nat) : Tank :=
  match f with
  | .cap => { k with cap := v }
  | .low => { k with low := v }

/-- SET A, SET B and SET PLANT field value of the plant coordinator (R93), and the settling that follows (R114). -/
def orderSetAgitatorPlant (v : PlantChange) (s : State) : State :=
  s.engineer <| match v with
    | .agitator a f x => s.withIndex f fun f => s.judge (tankSetChecks (s.tank a) f x) (s.updTank a (putTank · f x)).settle
    | .plant f x => s.withIndex f fun f =>
      s.judge [(!inRange (plantRange f).1 (plantRange f).2 x, .range)] { s with plant := putPlant s.plant f x }.settle

/-! ## SET PLANT METHOD, CIRCI and CIRCD -/

/-- SET PLANT METHOD (R121). -/
def orderSetPlantMethod (m : Option Method) (s : State) : State :=
  s.engineer <| s.withIndex m fun m => s.judge [] { s with plant := { s.plant with method := m } }

/-- SET PLANT CIRCI and SET PLANT CIRCD (R161). -/
def orderSetPlantCirc (f : CircSetting) (v : Nat) (s : State) : State :=
  s.engineer <| s.judge [(!inRange (circRange f).1 (circRange f).2 v, .range)] { s with plant := putCirc s.plant f v }

/-! ## SET Gg -/

/-- The watcher set of gauge `g` is non-empty, or a SEATING line is bound to a record that lists it (R129). -/
def State.gaugeClosed (s : State) (g : GaugeId) : Bool :=
  !(s.watchers g).isEmpty ||
  allLines.any fun n => (s.line n).state == .seating && (s.boundRecord (s.line n)).any fun r => r.gauges.contains g

/-- The checks of SET Gg, the range before BUSY (R129). -/
def State.gaugeSetChecks (s : State) (g : GaugeId) (f : GaugeSetting) (v : Nat) : List (Bool × Reason) :=
  let q := s.gauge g
  (!inRange (gaugeRange f).1 (gaugeRange f).2 v, .range) ::
  match f with
  | .on => [(decide (v = 0) && s.gaugeClosed g, .busy)]
  | .span => [(s.gaugeClosed g, .busy)]
  | .warn => [(decide (q.alarm ≤ v ∨ v ≤ q.hyst), .range)]
  | .alarm => [(decide (v ≤ q.warn), .range)]
  | .hyst => [(decide (q.warn ≤ v), .range)]

/-- ON 1 to an OFF gauge: IDLE, its figures and counts 0, its other settings kept (R129). -/
def Gauge.turnOn (q : Gauge) : Gauge :=
  if q.state = .off then
    { q with state := .idle, heave := 0, baseline := 0, maximum := 0, faults := 0, goods := 0 }
  else q

/-- A gauge setting taken (R129). -/
def Gauge.change (f : GaugeSetting) (v : Nat) (q : Gauge) : Gauge :=
  match f with
  | .on => if v = 0 then { q with state := .off } else q.turnOn
  | .span => { q with span := v }
  | .warn => { q with warn := v }
  | .alarm => { q with alarm := v }
  | .hyst => { q with hyst := v }

/-- SET Gg field value (R129). -/
def orderSetGauge (g : Nat) (f : Option GaugeSetting) (v : Nat) (s : State) : State :=
  s.engineer <| s.withIndex (gaugeOf g) fun g => s.withIndex f fun f =>
    s.judge (s.gaugeSetChecks g f v) (s.updGauge g (Gauge.change f v))

/-! ## The read form of SET -/

/-- The value of a line setting as a field (R170). -/
def lineSettingField (t : Settings) : LineSetting → Field
  | .number f => natField (getLineNumber t f)
  | .checks => checksField t.checks
  | .holdon => holdOnField t.holdon

/-- The name of a line setting. -/
def lineSettingName : LineSetting → String
  | .number f => lineNumberName f
  | .checks => "CHECKS"
  | .holdon => "HOLDON"

/-- The reply fields of a SET read: the scope, the field and the value (R170). -/
def State.settingFields (s : State) : SettingName → List Field
  | .line n f => [.word ('L' :: Nat.toDigits 10 n.val), wordField (lineSettingName f), lineSettingField (s.line n).settings f]
  | .agitator a f => [wordField (tankName a), wordField (tankSettingName f), natField (getTank (s.tank a) f)]
  | .plant f => [wordField "PLANT", wordField (plantSettingName f), natField (getPlant s.plant f)]
  | .circ f => [wordField "PLANT", wordField (circSettingName f), natField (getCirc s.plant f)]
  | .method => [wordField "PLANT", wordField "METHOD", wordField (methodName s.plant.method)]
  | .gauge g f => [.word ('G' :: Nat.toDigits 10 g.val), wordField (gaugeSettingName f), natField (getGauge (s.gauge g) f)]

/-- SET scope field (R170). -/
def orderSetRead (w : Option SettingName) (s : State) : State :=
  s.engineer <| s.withIndex w fun w => s.judge [] s (s.settingFields w)

/-! ## Meanings -/

/-- SET_LINE. -/
def execSetLine (n : Nat) (v : LineChange) (s : State) : Host.Outcome State Fault Refusal := .next (orderSetLine n v s)

/-- SET_AGITATOR_PLANT. -/
def execSetAgitatorPlant (v : PlantChange) (s : State) : Host.Outcome State Fault Refusal := .next (orderSetAgitatorPlant v s)

/-- SET_PLANT_METHOD. -/
def execSetPlantMethod (m : Option Method) (s : State) : Host.Outcome State Fault Refusal := .next (orderSetPlantMethod m s)

/-- SET_PLANT_CIRC. -/
def execSetPlantCirc (f : CircSetting) (v : Nat) (s : State) : Host.Outcome State Fault Refusal := .next (orderSetPlantCirc f v s)

/-- SET_GAUGE. -/
def execSetGauge (g : Nat) (f : Option GaugeSetting) (v : Nat) (s : State) : Host.Outcome State Fault Refusal :=
  .next (orderSetGauge g f v s)

/-- SET_READ. -/
def execSetRead (w : Option SettingName) (s : State) : Host.Outcome State Fault Refusal := .next (orderSetRead w s)

end Sys2Proof.Machine
end

