-- ==== Sys2Proof/Machine/BookOrders.lean ====
section
/-! DEFINITION. The orders of the stage book and the completion map (R116 to R118, R120), and TAKE (R181). -/

namespace Sys2Proof.Machine

/-! ## STAGE ADD and STAGE DROP -/

/-- Every gauge number of a list is 0 to 11: the list as gauges, else none (R116, R168). -/
def gaugesOf : List Nat → Option (List GaugeId)
  | [] => some []
  | g :: gs =>
    match gaugeOf g, gaugesOf gs with
    | some g, some gs => some (g :: gs)
    | _, _ => none

/-- The value checks of STAGE ADD (R116). -/
def stageAddValid (hole : Tag) (k top bottom : Nat) (gs : List GaugeId) : Bool :=
  holeTagOk hole && stageOk k && decide (top < bottom) && decide (bottom ≤ 2000) && inRange 10 300 (bottom - top) &&
  decide gs.Nodup

/-- STAGE ADD taken: the record joins the end of the book, and a hole without an entry gets one (R116). -/
def State.stageAdd (s : State) (hole : Tag) (k top bottom : Nat) (gs : List GaugeId) : State :=
  { s with
    book := s.book ++ [⟨hole, k, top, bottom, gs, .opened, 0, 0⟩]
    holes := if (s.holeEntry hole).isSome then s.holes else s.holes ++ [⟨hole, Vector.replicate 20 false⟩] }

/-- STAGE ADD hole stage top bottom [g [g]] (R116). More than two gauges fit no form of the order (R168). -/
def orderStageAdd (hole : Tag) (k top bottom : Nat) (gauges : List Nat) (s : State) : State :=
  if 2 < gauges.length then s.refuse .form
  else s.withIndex (gaugesOf gauges) fun gs =>
    s.judge [(!stageAddValid hole k top bottom gs, .range), ((s.record hole k).isSome, .exists),
        (decide (Config.bookCap ≤ s.book.length) || ((s.holeEntry hole).isNone && decide (Config.mapCap ≤ s.holes.length)), .full)]
      (s.stageAdd hole k top bottom gs)

/-- STAGE DROP hole stage (R117). -/
def orderStageDrop (hole : Tag) (k : Nat) (s : State) : State :=
  s.judge [(!holeTagOk hole || !stageOk k, .range), ((s.record hole k).isNone, .absent),
      ((s.record hole k).any StageRecord.seatedOnAny, .state)]
    { s with book := s.book.filter fun r => !r.isFor hole k }

/-! ## Reading the book and the map -/

/-- The reply fields of STAGE and BOOK i for a record (R118). -/
def State.recordReply (s : State) (r : StageRecord) : List Field := recordFields r (s.mark r.hole r.stage)

/-- STAGE hole stage (R118). -/
def orderStage (hole : Tag) (k : Nat) (s : State) : State :=
  if holeTagOk hole && stageOk k then
    match s.record hole k with
    | some r => s.judge [] s (s.recordReply r)
    | none => s.refuse .absent
  else s.refuse .range

/-- The number of records of the book with a status that `p` takes. -/
def State.countStatus (s : State) (p : StageStatus → Bool) : Nat := (s.book.filter fun r => p r.status).length

/-- The reply fields of BOOK without a position (R118). -/
def State.bookReply (s : State) : List Field :=
  let done := s.countStatus (· == .done)
  let opened := s.countStatus (· == .opened)
  [natField s.book.length, natField opened, natField (s.book.length - opened - done), natField done, natField s.holes.length,
    wordField (methodName s.plant.method)]

/-- BOOK [i] (R118). -/
def orderBook (i : Option Nat) (s : State) : State :=
  match i with
  | none => s.judge [] s s.bookReply
  | some i =>
    if i < Config.bookCap then
      match s.book[i]? with
      | some r => s.judge [] s (s.recordReply r)
      | none => s.refuse .absent
    else s.refuse .range

/-- MAP hole (R120). -/
def orderMap (hole : Tag) (s : State) : State :=
  if holeTagOk hole then
    match s.holeEntry hole with
    | some e =>
      s.judge [] s ([.word hole] ++ e.marks.toList.map .flag ++ [natField (s.book.filter fun r => r.hole == hole).length])
    | none => s.refuse .absent
  else s.refuse .range

/-- HOLE CLEAR hole (R120). -/
def orderHoleClear (hole : Tag) (s : State) : State :=
  s.judge [(!holeTagOk hole, .range), ((s.holeEntry hole).isNone, .absent), (s.book.any (fun r => r.hole == hole), .busy)]
    { s with holes := s.holes.filter fun e => e.hole != hole }

/-! ## TAKE (R181) -/

/-- TAKE: the oldest result is removed and answered, and one pending result moves into the queue (R175, R181). -/
def orderTake (s : State) : State :=
  match s.results with
  | [] => s.refuse .empty
  | r :: rs => s.judge [] { s with results := rs }.movePending (resultFields r)

/-! ## Meanings -/

/-- STAGE_ADD. -/
def execStageAdd (hole : Tag) (k top bottom : Nat) (gauges : List Nat) (s : State) : Host.Outcome State Fault Refusal :=
  .next (orderStageAdd hole k top bottom gauges s)

/-- STAGE_DROP. -/
def execStageDrop (hole : Tag) (k : Nat) (s : State) : Host.Outcome State Fault Refusal := .next (orderStageDrop hole k s)

/-- STAGE. -/
def execStage (hole : Tag) (k : Nat) (s : State) : Host.Outcome State Fault Refusal := .next (orderStage hole k s)

/-- BOOK. -/
def execBook (i : Option Nat) (s : State) : Host.Outcome State Fault Refusal := .next (orderBook i s)

/-- MAP. -/
def execMap (hole : Tag) (s : State) : Host.Outcome State Fault Refusal := .next (orderMap hole s)

/-- HOLE_CLEAR. -/
def execHoleClear (hole : Tag) (s : State) : Host.Outcome State Fault Refusal := .next (orderHoleClear hole s)

/-- TAKE. -/
def execTake (s : State) : Host.Outcome State Fault Refusal := .next (orderTake s)

end Sys2Proof.Machine
end

