-- ==== Sys2Proof/Machine/LineOrders.lean ====
section
/-! DEFINITION. The line orders (R22 to R43, R73, R160, R13): the checks of R22 with its table, then each order's own checks
and its effect. The plant settles after an order that is one of its events, or that makes one on the lines (R114). -/

namespace Sys2Proof.Machine

/-! ## The checks of R22 -/

/-- The columns of R22's table; RELEASE carries whether FORCE is given. -/
inductive LineOrder where
  | prime | seat | inject | cancel | pause | resume | endStage | abort
  | release (force : Bool)
  | mix | circulate | wash | tare
deriving DecidableEq, Repr

/-- R22's table with its conditional entries resolved: the order passes the state check. -/
def Line.takes (l : Line) : LineOrder → Bool
  | .prime => l.state == .dry
  | .seat => l.state == .primed
  | .inject => l.state == .seated
  | .cancel => l.state == .armed
  | .pause => l.state == .injecting
  | .resume => l.state == .paused
  | .endStage => l.endable
  | .abort => match l.state with
    | .seating | .armed | .injecting | .paused => true
    | .seated => l.bound.isSome
    | _ => false
  | .release force => l.state == .seated || (l.state == .decaying && force)
  | .mix => l.working
  | .circulate => l.state.takesRuns
  | .wash => l.state == .primed || l.state == .fouled
  | .tare => l.state == .dry || l.state == .primed

/-- Check 1 of R22. -/
def State.lockedCheck (s : State) (n : LineId) : Bool × Reason := ((s.line n).key == .locl, .locked)

/-- Check 2 of R22. -/
def State.stoppedCheck (s : State) : Bool × Reason := (s.loop == .opened, .stopped)

/-- Check 3 of R22. -/
def State.stateCheck (s : State) (n : LineId) (o : LineOrder) : Bool × Reason := (!(s.line n).takes o, .state)

/-- LOCKED, STOPPED and STATE, the checks of an order that moves grout (R22). -/
def State.pumpingChecks (s : State) (n : LineId) (o : LineOrder) : List (Bool × Reason) :=
  [s.lockedCheck n, s.stoppedCheck, s.stateCheck n o]

/-- LOCKED and STATE, the checks of an order that moves none (R22). -/
def State.lineChecks (s : State) (n : LineId) (o : LineOrder) : List (Bool × Reason) := [s.lockedCheck n, s.stateCheck n o]

/-- The optional word of an order: whether it is given, or none where another word stands there (R167). -/
def givenWord (w : OptWord) : Option Bool :=
  match w with
  | .absent => some false
  | .given => some true
  | .other => none

/-! ## PRIME (R23) -/

/-- The own checks of PRIME (R23). -/
def State.primeChecks (s : State) (n : LineId) (t : AgitatorId) : List (Bool × Reason) :=
  let k := s.tank t
  [((s.line n).tareFlag, .busy), (k.state == .dumping || k.state == .receivingChange, .state), (k.state == .empty, .empty),
    (decide (k.level < (s.line n).settings.hose), .low)]

/-- PRIME taken: the draw agitator set and PRIMING entered, HOSE reserved with what a level of 0 brings, the plant settled
(R23, R96, R114). -/
def State.prime (s : State) (n : LineId) (t : AgitatorId) : State :=
  let hose := (s.line n).settings.hose
  let s := s.updLine n fun l => { l.enter .priming with draw := some t }
  ((s.drawLevel t hose).starveIfEmpty t []).settle

/-- PRIME n a. -/
def orderPrime (n : Nat) (a : Option AgitatorId) (s : State) : State :=
  s.withIndex (lineOf n) fun n => s.withIndex a fun t =>
    s.judge (s.pumpingChecks n .prime ++ s.primeChecks n t) (s.prime n t)

/-! ## SEAT (R25, R122) -/

/-- The stage book's checks of SEAT for line `n`, the record being `r` (R122, R124). -/
def State.seatChecks (s : State) (n : LineId) (hole : Tag) (k : Nat) (regrout : Bool) : List (Bool × Reason) :=
  let r := s.record hole k
  [(r.isNone, .absent),
    (r.any (fun r => r.seatedOnAny || (r.status == .done && !regrout)), .state),
    (s.book.any (fun r => r.hole == hole && r.stage != k && r.seatedOnAny), .hole),
    (!regrout && !s.stageOrderHolds hole k, .order),
    (r.any (fun r => r.gauges.any fun g => (s.gauge g).state.bars), .gauge),
    ((s.line n).pendingResult.isSome, .pending)]

/-- What SEAT makes of the line context (R25, R132). -/
def Line.seat (hole : Tag) (k : Nat) (regrout : Bool) (l : Line) : Line :=
  let l := l.enter .seating
  { l with
    bound := some ⟨hole, k⟩
    regrout := regrout
    startClock := none
    endReason := none
    pauses := 0
    mixChanges := 0
    heaveMax := none
    fig := { l.fig with volume := 0, mixVolume := 0 } }

/-- What SEAT makes of the stage record (R122). -/
def StageRecord.seat (n : LineId) (regrout : Bool) (r : StageRecord) : StageRecord :=
  { r with
    status := .seatedOn n
    regrouts := if regrout then satAdd Config.countCeiling r.regrouts 1 else r.regrouts }

/-- SEAT taken (R25, R122); the plant settles where a circulation run ends with it (R114, R158). -/
def State.seat (s : State) (n : LineId) (hole : Tag) (k : Nat) (regrout : Bool) : State :=
  s.settleIfTold ((s.updRecord hole k (StageRecord.seat n regrout)).updLine n (Line.seat hole k regrout))

/-- SEAT n hole stage [REGROUT]. -/
def orderSeat (n : Nat) (hole : Tag) (k : Nat) (regrout : OptWord) (s : State) : State :=
  s.withIndex (lineOf n) fun n => s.withIndex (givenWord regrout) fun regrout =>
    s.judge ([(!holeTagOk hole || !stageOk k, .range)] ++ s.lineChecks n .seat ++ [((s.line n).tareFlag, .busy)] ++
        s.seatChecks n hole k regrout)
      (s.seat n hole k regrout)

/-! ## INJECT (R29, R48) -/

/-- The own checks of INJECT (R29, R88). -/
def State.injectChecks (s : State) (n : LineId) (e : EnvelopeId) (w : WindowId) (m : MixNo) : List (Bool × Reason) :=
  [((s.line n).bound.isNone, .absent),
    (s.envelopes[e].isNone || s.windows[w].isNone || (s.mixEntry m).isNone, .absent),
    (!s.tankHolds .tankA m && !s.tankHolds .tankB m, .mix),
    (s.watchedAny (s.line n) (· == .alarm), .gauge),
    ((s.line n).inputs.collar.degraded, .sensor)]

/-- The draw agitator that INJECT settles for mix `m`: the present one where it holds `m`, else the other (R29). -/
def State.injectDraw (s : State) (n : LineId) (m : MixNo) : AgitatorId :=
  match (s.line n).draw with
  | some t => if s.tankHolds t m then t else t.other
  | none => if s.tankHolds .tankA m then .tankA else .tankB

/-- What INJECT makes of the line context, drawing from `t` (R29, R48). -/
def Line.inject (e : EnvelopeId) (w : WindowId) (m : MixNo) (release : Bool) (t : AgitatorId) (l : Line) : Line :=
  let l := l.enter .armed
  { l with
    envelope := some e
    window := some w
    releaseFlag := release
    front := if l.draw = some t then l.front else l.settings.hose
    draw := some t
    drawMix := some m
    fig := { l.fig with
      volume := 0
      mixVolume := 0
      mixList := match l.columnMix with
        | some k => [k]
        | none => []
      pointIndex := 0
      dwellCount := 0
      refusalCount := 0
      warnCap := none
      tripMark := false
      lastPe := 0
      lastAllowed := 0
      lastTarget := 0
      lastIntensity := 0
      lastTake := 0
      maxPe := 0 } }

/-- INJECT taken: the draw settled, ARMED entered, the tail of the start queue joined, the plant settled (R29, R109, R114). -/
def State.inject (s : State) (n : LineId) (e : EnvelopeId) (w : WindowId) (m : MixNo) (release : Bool) : State :=
  ((s.updLine n (Line.inject e w m release (s.injectDraw n m))).joinOwnQueue n).settle

/-- The index fields of INJECT: envelope, window and mix (R88, R168). -/
def injectFields (e w m : Nat) (release : OptWord) : Option (EnvelopeId × WindowId × MixNo × Bool) :=
  match envelopeOf e, windowOf w, mixOk m, givenWord release with
  | some e, some w, true, some r => some (e, w, m, r)
  | _, _, _, _ => none

/-- INJECT n e w m [RELEASE]. -/
def orderInject (n e w m : Nat) (release : OptWord) (s : State) : State :=
  s.withIndex (lineOf n) fun n => s.withIndex (injectFields e w m release) fun (e, w, m, r) =>
    s.judge (s.pumpingChecks n .inject ++ s.injectChecks n e w m) (s.inject n e w m r)

/-! ## CANCEL (R31) -/

/-- What CANCEL makes of the line context (R31). -/
def Line.cancel (l : Line) : Line :=
  if l.startClock.isNone then
    { l.enter .seated with envelope := none, window := none, pendingMix := none, releaseFlag := false }
  else { l.enter .paused with pauseCause := some .order }

/-- CANCEL taken: the start queue left, then SEATED with the withdrawal, or PAUSED with its event (R31, R102). -/
def State.cancel (s : State) (n : LineId) : State :=
  let t := (s.leaveQueues n).updLine n Line.cancel
  (if (s.line n).startClock.isNone then t.withdraw else t.lineEvent n .paused (some (.cause .order))).settle

/-- CANCEL n. -/
def orderCancel (n : Nat) (s : State) : State :=
  s.withIndex (lineOf n) fun n => s.judge (s.lineChecks n .cancel) (s.cancel n)

/-! ## PAUSE, RESUME and END (R32 to R35) -/

/-- PAUSE n (R32). -/
def orderPause (n : Nat) (s : State) : State :=
  s.withIndex (lineOf n) fun n => s.judge (s.lineChecks n .pause) (s.pauseNow n .order)

/-- The own checks of RESUME (R33). -/
def State.resumeChecks (s : State) (n : LineId) : List (Bool × Reason) :=
  let l := s.line n
  [(s.watchedAny l (· == .alarm), .gauge), (l.inputs.collar.degraded, .sensor),
    (l.draw.any (fun t => (s.tank t).level == 0), .empty)]

/-- RESUME taken (R33). -/
def State.resume (s : State) (n : LineId) : State :=
  ((s.updLine n fun l => { l.enter .armed with pauseCause := none }).joinOwnQueue n).settle

/-- RESUME n. -/
def orderResume (n : Nat) (s : State) : State :=
  s.withIndex (lineOf n) fun n => s.judge (s.pumpingChecks n .resume ++ s.resumeChecks n) (s.resume n)

/-- END n (R34); the plant settles where a pending mix is cleared or a circulation run ends with it (R114). -/
def orderEndStage (n : Nat) (s : State) : State :=
  s.withIndex (lineOf n) fun n => s.judge (s.lineChecks n .endStage) (s.settleIfTold (s.stageEnd n .ordered))

/-! ## ABORT (R28, R42) -/

/-- ABORT taken in SEATING (R28). -/
def State.abortSeat (s : State) (n : LineId) : State :=
  let s := (s.updLine n fun l => { l with endReason := some .aborted }).releaseBinding n
  (s.updLine n (Line.enter .primed)).lineEvent n .aborted

/-- ABORT taken in the other states that take it (R42). -/
def State.abortStage (s : State) (n : LineId) : State :=
  let s := (s.leaveQueues n).updLine n fun l => { l with endReason := some .aborted }
  let s := ((s.resultFor n .aborted).updLine n Line.letGo).withdraw
  let s := s.updLine n fun l => { l.enter .decaying with releaseFlag := true }
  s.lineEvent n .aborted (some (.num ((s.line n).fig.volume / 1000 : Nat)))

/-- ABORT n; the plant settles where a queue is left, a pending mix cleared or a circulation run ended with it (R114). -/
def orderAbort (n : Nat) (s : State) : State :=
  s.withIndex (lineOf n) fun n =>
    s.judge (s.lineChecks n .abort)
      (if (s.line n).state = .seating then s.abortSeat n else s.settleIfTold (s.abortStage n))

/-! ## RELEASE (R38, R39) -/

/-- RELEASE n [FORCE]; the plant settles where a circulation run ends with it (R114, R158). -/
def orderRelease (n : Nat) (force : OptWord) (s : State) : State :=
  s.withIndex (lineOf n) fun n => s.withIndex (givenWord force) fun force =>
    s.judge (s.lineChecks n (.release force) ++ [(!force && decide ((s.line n).settings.relp < (s.line n).inputs.pc), .pressure)])
      (s.settleIfTold (s.updLine n (Line.enter .releasing)))

/-! ## MIX (R73) -/

/-- MIX taken: the pending mix set or replaced, the CHANGE no line needs withdrawn, the plant settled (R73, R102, R114). -/
def State.orderMixTo (s : State) (n : LineId) (k : MixNo) : State :=
  ((s.updLine n fun l => { l with pendingMix := some k }).withdraw).settle

/-- MIX n k. -/
def orderMix (n k : Nat) (s : State) : State :=
  s.withIndex (lineOf n) fun n =>
    s.judge [(!mixOk k, .range), s.stateCheck n .mix, ((s.mixEntry k).isNone, .absent), ((s.line n).drawMix == some k, .mix)]
      (s.orderMixTo n k)

/-! ## CIRCULATE (R160) -/

/-- The own checks of CIRCULATE (R160). -/
def State.circulateChecks (s : State) (n : LineId) : List (Bool × Reason) :=
  let l := s.line n
  [(l.tareFlag || l.circ.running, .busy), (!l.draw.any (fun t => (s.tank t).state == .ready), .state),
    (l.draw.any (fun t => (s.tank t).level == 0), .empty)]

/-- CIRCULATE n. -/
def orderCirculate (n : Nat) (s : State) : State :=
  s.withIndex (lineOf n) fun n =>
    s.judge (s.pumpingChecks n .circulate ++ s.circulateChecks n) (s.updLine n Line.startRun)

/-! ## WASH (R43) -/

/-- What WASH makes of the line context (R43). -/
def Line.wash (l : Line) : Line :=
  let l := l.enter .washing
  { l with
    draw := none
    columnMix := none
    drawMix := none
    pendingMix := none
    front := 0
    pauseCause := none
    circ := { l.circ with age := none, blocked := false } }

/-- WASH n; a line that was FOULED leaves no drawer set, and the plant does not settle for it (R94, R114). -/
def orderWash (n : Nat) (s : State) : State :=
  s.withIndex (lineOf n) fun n =>
    s.judge (s.pumpingChecks n .wash ++ [((s.line n).tareFlag, .busy)])
      (s.settleIfTold ((s.updLine n Line.wash).withdraw))

/-! ## TARE (R13) -/

/-- The checks of TARE, in its own order (R13). -/
def State.tareChecks (s : State) (n : LineId) : List (Bool × Reason) :=
  [s.stateCheck n .tare, ((s.line n).tareFlag || (s.line n).circ.running, .busy), ((s.line n).inputs.collar.degraded, .sensor)]

/-- TARE taken: an empty tare run is present (R13). -/
def Line.startTare (l : Line) : Line := { l with inputs := { l.inputs with tare := some ⟨0, 0⟩ } }

/-- TARE n. -/
def orderTare (n : Nat) (s : State) : State :=
  s.withIndex (lineOf n) fun n => s.judge (s.tareChecks n) (s.updLine n Line.startTare)

/-! ## Meanings -/

/-- PRIME. -/
def execPrime (n : Nat) (a : Option AgitatorId) (s : State) : Host.Outcome State Fault Refusal := .next (orderPrime n a s)

/-- SEAT. -/
def execSeat (n : Nat) (hole : Tag) (k : Nat) (regrout : OptWord) (s : State) : Host.Outcome State Fault Refusal :=
  .next (orderSeat n hole k regrout s)

/-- INJECT. -/
def execInject (n e w m : Nat) (release : OptWord) (s : State) : Host.Outcome State Fault Refusal :=
  .next (orderInject n e w m release s)

/-- CANCEL. -/
def execCancel (n : Nat) (s : State) : Host.Outcome State Fault Refusal := .next (orderCancel n s)

/-- PAUSE. -/
def execPause (n : Nat) (s : State) : Host.Outcome State Fault Refusal := .next (orderPause n s)

/-- RESUME. -/
def execResume (n : Nat) (s : State) : Host.Outcome State Fault Refusal := .next (orderResume n s)

/-- END. -/
def execEndStage (n : Nat) (s : State) : Host.Outcome State Fault Refusal := .next (orderEndStage n s)

/-- ABORT. -/
def execAbort (n : Nat) (s : State) : Host.Outcome State Fault Refusal := .next (orderAbort n s)

/-- RELEASE. -/
def execRelease (n : Nat) (force : OptWord) (s : State) : Host.Outcome State Fault Refusal := .next (orderRelease n force s)

/-- MIX. -/
def execMix (n k : Nat) (s : State) : Host.Outcome State Fault Refusal := .next (orderMix n k s)

/-- CIRCULATE. -/
def execCirculate (n : Nat) (s : State) : Host.Outcome State Fault Refusal := .next (orderCirculate n s)

/-- WASH. -/
def execWash (n : Nat) (s : State) : Host.Outcome State Fault Refusal := .next (orderWash n s)

/-- TARE. -/
def execTare (n : Nat) (s : State) : Host.Outcome State Fault Refusal := .next (orderTare n s)

end Sys2Proof.Machine
end

