-- ==== Sys2Proof/Machine/PlantOrders.lean ====
section
/-! DEFINITION. The operator orders of the plant coordinator, LEVEL, BATCH and PLANT (R97, R101, R112), and of uplift watch,
GAUGE and UPLIFT CLEAR (R136, R137). -/

namespace Sys2Proof.Machine

/-! ## LEVEL (R97) -/

/-- The states of an agitator in which it holds a mix whose level LEVEL can set (R97). -/
def TankState.levelled : TankState → Bool
  | .ready | .receivingTopup => true
  | _ => false

/-- LEVEL taken: the level set, clamped to the capacity; at level 0 a READY agitator without drawers becomes EMPTY, and one
with drawers is starved (R96, R97); then the plant settles (R114). -/
def State.setLevelTo (s : State) (t : AgitatorId) (litres : Nat) : State :=
  let s := s.setLevel t (min (litres * 1000) ((s.tank t).cap * 1000))
  let s :=
    if (s.tank t).level = 0 ∧ (s.tank t).state = .ready ∧ (s.drawers t).isEmpty = true then
      s.updTank t fun k => { k with state := .empty, mix := none }
    else s.starveIfEmpty t []
  s.settle

/-- LEVEL a litres. -/
def orderLevel (a : Option AgitatorId) (litres : Nat) (s : State) : State :=
  s.withIndex a fun t =>
    s.judge [(!inRange 0 3000 litres, .range), (!(s.tank t).state.levelled, .state)] (s.setLevelTo t litres)

/-! ## BATCH (R101) -/

/-- The kind of a BATCH request: TOPUP for the mix that the agitator holds, else CHANGE (R101). -/
def State.batchKind (s : State) (t : AgitatorId) (k : MixNo) : RequestKind := if s.tankHolds t k then .topup else .change

/-- BATCH a k. -/
def orderBatch (a : Option AgitatorId) (k : Nat) (s : State) : State :=
  s.withIndex a fun t =>
    s.judge [(!mixOk k, .range), ((s.mixEntry k).isNone, .absent), (!s.queueRoom && !s.queued (.one t) k, .full)]
      (s.enqueue ⟨.one t, k, s.batchKind t k, .order⟩).settle

/-! ## PLANT (R112, R172) -/

/-- The fields of the mixer: state, the request in service or a minus sign, and the phase timer (R112, R172). -/
def State.mixerFields (s : State) : List Field :=
  [wordField (mixerName s.mixer)] ++
  (match s.mixer.service with
    | some r => requestFields r
    | none => [.absent]) ++ [natField s.phaseTimer]

/-- The fields of an agitator (R112). -/
def State.tankFields (s : State) (t : AgitatorId) : List Field :=
  let k := s.tank t
  tankStateFields k.state ++
  [optField natField k.mix, optField (fun m : Mix => .word m.tag) (k.mix.bind s.mixEntry), natField (k.level / 1000),
    natField k.cap, natField k.low, linesField (s.drawers t), linesField k.startQueue, natField k.stagger]

/-- PLANT (R112). -/
def orderPlant (s : State) : State :=
  s.judge [] s (s.mixerFields ++ [natField s.batchQueue.length] ++ s.batchQueue.flatMap requestFields ++
    s.tankFields .tankA ++ s.tankFields .tankB)

/-! ## GAUGE and UPLIFT CLEAR (R136, R137) -/

/-- The reply fields of GAUGE (R137). -/
def State.gaugeReply (s : State) (g : GaugeId) : List Field :=
  let q := s.gauge g
  [natField g.val, wordField (gaugeStateName q.state), .flag (q.state != .off), natField q.span, natField q.warn,
    natField q.alarm, natField q.hyst, .num q.heave, .num q.baseline, .num q.relative, natField q.maximum,
    natField q.faults, linesField (s.watchers g)]

/-- GAUGE g. -/
def orderGauge (g : Nat) (s : State) : State := s.withIndex (gaugeOf g) fun g => s.judge [] s (s.gaugeReply g)

/-- The gauge's alarm can be cleared: it is in ALARM, its relative heave is below warn − hysteresis and its fault count is 0
(R136). -/
def Gauge.clearable (q : Gauge) : Bool :=
  q.state == .alarm && decide (q.relative < (q.warn : Int) - q.hyst) && q.faults == 0

/-- UPLIFT CLEAR taken (R136). -/
def State.upliftClear (s : State) (g : GaugeId) : State :=
  (s.updGauge g fun q => { q with state := if (s.watchers g).isEmpty then .idle else .watch }).plantEvent .upliftClear
    (some (.gauge g)) (some (.num (s.gauge g).relative))

/-- UPLIFT CLEAR g. -/
def orderUpliftClear (g : Nat) (s : State) : State :=
  s.withIndex (gaugeOf g) fun g => s.judge [(!(s.gauge g).clearable, .state)] (s.upliftClear g)

/-! ## Meanings -/

/-- LEVEL. -/
def execLevel (a : Option AgitatorId) (litres : Nat) (s : State) : Host.Outcome State Fault Refusal :=
  .next (orderLevel a litres s)

/-- BATCH. -/
def execBatch (a : Option AgitatorId) (k : Nat) (s : State) : Host.Outcome State Fault Refusal := .next (orderBatch a k s)

/-- PLANT. -/
def execPlant (s : State) : Host.Outcome State Fault Refusal := .next (orderPlant s)

/-- GAUGE. -/
def execGauge (g : Nat) (s : State) : Host.Outcome State Fault Refusal := .next (orderGauge g s)

/-- UPLIFT_CLEAR. -/
def execUpliftClear (g : Nat) (s : State) : Host.Outcome State Fault Refusal := .next (orderUpliftClear g s)

end Sys2Proof.Machine
end

