-- ==== Sys2Proof/Machine/ReadOrders.lean ====
section
/-! DEFINITION. The order line's own operator orders: STATUS (R171), LINE (R172), POLL (R174) and CLOCK (R176). -/

namespace Sys2Proof.Machine

/-! ## STATUS (R171) -/

/-- A hold's mark: 2 where its overflow mark is set, else 1 where it holds entries, else 0 (R171). -/
def Hold.mark (h : Hold) : Char := if h.overflow then '2' else if h.entries.isEmpty then '0' else '1'

/-- The word of the site-stop state. -/
def loopName : Loop → String
  | .closed => "CLOSED"
  | .opened => "OPEN"

/-- The word of the configuration key's position. -/
def configName : ConfigKey → String
  | .run => "RUN"
  | .enable => "ENABLE"

/-- The letter of a lockout key position (R171). -/
def keyLetter : LockKey → Char
  | .remote => 'R'
  | .locl => 'L'

/-- The ten fields of STATUS (R171). -/
def State.statusReply (s : State) : List Field :=
  [natField s.clock.toNat,
    .word (allLines.map fun n => stateLetter (s.line n).state),
    .word ((allLines.map fun n => s.lineHolds[n].mark) ++ [s.plantHold.mark]),
    wordField (loopName s.loop), wordField (configName s.config),
    .word (allLines.map fun n => keyLetter (s.line n).key),
    wordField (mixerName s.mixer), wordField (tankStateName s.tankA.state), wordField (tankStateName s.tankB.state),
    natField s.results.length]

/-- STATUS. -/
def orderStatus (s : State) : State := s.judge [] s s.statusReply

/-! ## LINE (R172) -/

/-- Fields 1 to 19 of LINE: the line and its state, binding, gauges, mixes, tables (R172). -/
def Line.contextFields (n : LineId) (l : Line) : List Field :=
  [natField n.val, wordField (stateName l.state), optField (fun c => wordField (causeName c)) l.pauseCause,
    wordField (keyName l.key),
    optField (fun b : StageRef => .word b.hole) l.bound, optField (fun b : StageRef => natField b.stage) l.bound,
    .flag l.regrout, optField (fun c : Clock => natField c.toNat) l.startClock,
    optField (fun r => wordField (endReasonName r)) l.endReason,
    gaugesField l.watched, natField l.seatRef,
    optField (fun t => wordField (tankName t)) l.draw, optField natField l.columnMix, optField natField l.drawMix,
    optField natField l.pendingMix, natField l.front,
    optField (fun e : EnvelopeId => natField e.val) l.envelope, optField (fun w : WindowId => natField w.val) l.window,
    .flag l.releaseFlag]

/-- Fields 20 to 36 of LINE: the figures of the computation and the timed state's items (R172). -/
def Line.figureFields (l : Line) : List Field :=
  [natField l.fig.volume, natField l.fig.mixVolume, natField l.fig.pointIndex, natField l.dwellTimer,
    natField l.refusalTimer, natField l.fig.pumpRate, optField natField l.fig.warnCap, natField l.fig.lastPe,
    natField l.fig.lastAllowed, natField l.fig.lastTarget, natField l.fig.lastIntensity, natField l.fig.lastTake,
    natField l.fig.maxPe, .flag l.fig.tripMark, natField l.stateTimer, natField l.condCount, .flag l.slowMark]

/-- Fields 37 to 49 of LINE: circulation, tare and the measured figures (R172). -/
def Line.measureFields (l : Line) : List Field :=
  [optField natField l.groutAge, .flag l.circ.running, natField l.circ.runCount, .flag l.circ.blocked, .flag l.tareFlag,
    optField (fun r : TareRun => natField r.samples) l.inputs.tare, natField l.inputs.pc, natField l.inputs.collar.value,
    natField l.inputs.packer.value, natField l.inputs.flow, natField l.inputs.strokes, .flag l.inputs.collar.degraded,
    .flag l.inputs.packer.degraded]

/-- Fields 50 to 61 of LINE: the stage's counts and the response unit's items (R172). -/
def Line.latchFields (l : Line) : List Field :=
  [natField l.pauses, natField l.mixChanges, .flag l.pendingResult.isSome, optField natField l.heaveMax,
    optField natField l.latch.reference, natField l.latch.period, natField l.latch.holdOff, natField l.latch.packerCount,
    .flag l.latch.dropMark, .flag l.latch.surgeMark, .flag l.latch.packerMark, .flag l.latch.commMark]

/-- The 61 fields of LINE (R172). -/
def State.lineReply (s : State) (n : LineId) : List Field :=
  let l := s.line n
  l.contextFields n ++ l.figureFields ++ l.measureFields ++ l.latchFields

/-- LINE n. -/
def orderLine (n : Nat) (s : State) : State := s.withIndex (lineOf n) fun n => s.judge [] s (s.lineReply n)

/-! ## POLL (R174) -/

/-- The hold that POLL names. -/
def State.hold (s : State) : HoldName → Hold
  | .line n => s.lineHolds[n]
  | .plant => s.plantHold

/-- The hold that POLL names is emptied and its mark cleared (R174). -/
def State.clearHold (s : State) : HoldName → State
  | .line n => { s with lineHolds := s.lineHolds.set n .cleared }
  | .plant => { s with plantHold := .cleared }

/-- The name of a hold in the reply to POLL: 0 to 7 or P (R174). -/
def holdField : HoldName → Field
  | .line n => natField n.val
  | .plant => wordField "P"

/-- The reply fields of POLL (R174). -/
def State.pollReply (s : State) (h : HoldName) : List Field :=
  [holdField h, natField (s.hold h).entries.length, .flag (s.hold h).overflow] ++ (s.hold h).entries.flatMap eventFields

/-- POLL h. -/
def orderPoll (h : Option HoldName) (s : State) : State :=
  s.withIndex h fun h => s.judge [] (s.clearHold h) (s.pollReply h)

/-! ## CLOCK (R176) -/

/-- CLOCK [s]. -/
def orderClock (v : Option Nat) (s : State) : State :=
  match v with
  | none => s.judge [] s [natField s.clock.toNat]
  | some v => s.judge [(decide (4294967295 < v), .range)] { s with clock := BitVec.ofNat 32 v } [natField v]

/-! ## Meanings -/

/-- STATUS. -/
def execStatus (s : State) : Host.Outcome State Fault Refusal := .next (orderStatus s)

/-- LINE. -/
def execLine (n : Nat) (s : State) : Host.Outcome State Fault Refusal := .next (orderLine n s)

/-- POLL. -/
def execPoll (h : Option HoldName) (s : State) : Host.Outcome State Fault Refusal := .next (orderPoll h s)

/-- CLOCK. -/
def execClock (v : Option Nat) (s : State) : Host.Outcome State Fault Refusal := .next (orderClock v s)

end Sys2Proof.Machine
end

