-- ==== Sys2Proof/Machine/TableOrders.lean ====
section
/-! DEFINITION. The engineer orders on the mix table (R90, R91), the envelopes (R84, R86), the profile windows and points
(R79 to R81) and the response table (R148), and RESTART (R177). -/

namespace Sys2Proof.Machine

/-! ## The mix table -/

/-- The new density breaks the strict rise of density with index among the defined mixes (R90). -/
def State.densityFails (s : State) (k : MixNo) (density : Nat) : Bool :=
  [1, 2, 3, 4, 5, 6].any fun j => (s.mixEntry j).any fun m =>
    decide ((j < k ∧ density ≤ m.density) ∨ (k < j ∧ m.density ≤ density))

/-- MIXDEF k tag wc density friction settime (R90). -/
def orderMixdef (k : Nat) (m : Mix) (s : State) : State :=
  s.engineer <| s.judge
    [(!mixOk k || !mixFieldsOk m, .range), (s.mixInUse k, .busy), (s.densityFails k m.density, .order)]
    (s.setMix k (some m))

/-- The five fields of a mix in the order of R89. -/
def mixFields (m : Mix) : List Field := [.word m.tag, natField m.wc, natField m.density, natField m.friction, natField m.settime]

/-- MIXDEF k, the read form (R91). -/
def orderMixdefRead (k : Nat) (s : State) : State :=
  s.engineer <| if mixOk k then
    match s.mixEntry k with
    | some m => s.judge [] s ([natField k] ++ mixFields m ++ [.flag (s.mixInUse k)])
    | none => s.refuse .absent
  else s.refuse .range

/-- DROPMIX k (R91). -/
def orderDropmix (k : Nat) (s : State) : State :=
  s.engineer <| s.judge [(!mixOk k, .range), (s.mixInUse k, .busy), ((s.mixEntry k).isNone, .absent)] (s.setMix k none)

/-! ## Envelopes -/

/-- ENVDEF e and eight fields (R84). -/
def orderEnvdef (e : Nat) (r : Envelope) (s : State) : State :=
  s.engineer <| s.withIndex (envelopeOf e) fun e =>
    s.judge [(!envelopeFieldsOk r, .range), (!(s.envelopeHolders e).isEmpty, .busy)]
      { s with envelopes := s.envelopes.set e (some r) }

/-- The eight fields of an envelope in the order of R83. -/
def envelopeFields (r : Envelope) : List Field :=
  [r.pmax, r.vmax, r.ginmax, r.rflow, r.rtime, r.band, r.tvol, r.tpct].map natField

/-- ENVDEF e, the read form: each holder is a field of its own (R86). -/
def orderEnvdefRead (e : Nat) (s : State) : State :=
  s.engineer <| s.withIndex (envelopeOf e) fun e =>
    match s.envelopes[e] with
    | some r => s.judge [] s ([natField e.val] ++ envelopeFields r ++ (s.envelopeHolders e).map fun n => natField n.val)
    | none => s.refuse .absent

/-! ## Profile windows and points -/

/-- PROFILE w base count (R80). -/
def orderProfile (w base count : Nat) (s : State) : State :=
  s.engineer <| s.withIndex (windowOf w) fun w =>
    s.judge [(!inRange 0 255 base || !inRange 1 32 count || decide (256 < base + count), .range),
        (!(s.windowHolders w).isEmpty, .busy)]
      { s with windows := s.windows.set w (some ⟨base, count⟩) }

/-- PROFILE w, the read form: each holder is a field of its own (R81). -/
def orderProfileRead (w : Nat) (s : State) : State :=
  s.engineer <| s.withIndex (windowOf w) fun w =>
    match s.windows[w] with
    | some d =>
      s.judge [] s ([natField w.val, natField d.base, natField d.count] ++ (s.windowHolders w).map fun n => natField n.val)
    | none => s.refuse .absent

/-- POINT i target dwell (R79). -/
def orderPoint (i target dwell : Nat) (s : State) : State :=
  s.engineer <| s.withIndex (pointOf i) fun i =>
    s.judge [(!inRange 0 10000 target || !inRange 0 3600 dwell, .range), (s.pointInUse i, .busy)]
      { s with points := s.points.set i ⟨target, dwell⟩ }

/-- POINT i, the read form (R81). -/
def orderPointRead (i : Nat) (s : State) : State :=
  s.engineer <| s.withIndex (pointOf i) fun i =>
    s.judge [] s [natField i.val, natField s.points[i].target, natField s.points[i].dwell, .flag (s.pointInUse i)]

/-! ## The response table -/

/-- The table allows the action for the kind: every action but REPORT for SENSOR (R148). -/
def responseAllowed : DetectionKind → Action → Bool
  | .sensor, .report => false
  | _, _ => true

/-- RESPONSE kind action (R148). -/
def orderResponse (kind : Option DetectionKind) (act : Option Action) (s : State) : State :=
  s.engineer <| s.withIndex kind fun k => s.withIndex act fun a =>
    s.judge [(!responseAllowed k a, .range)] { s with responses := s.responses.put k a }

/-- RESPONSE kind, the read form (R148). -/
def orderResponseRead (kind : Option DetectionKind) (s : State) : State :=
  s.engineer <| s.withIndex kind fun k =>
    s.judge [] s [wordField (detectionName k), wordField (actionName (s.responses.get k))]

/-! ## RESTART (R177) -/

/-- What RESTART does to a line: its pending slot is emptied and the response unit's items are cleared; all else stands
(R18, R139, R177). -/
def Line.restart (l : Line) : Line := { l with pendingResult := none, latch := .cleared }

/-- The part after a taken RESTART: the tables, queues, holds, book and map as at power-on; the lines, the measurement
inputs, the clock, the loop, the keys and the held lines kept (R177). -/
def State.restarted (s : State) : State :=
  { s with
    lines := s.lines.map Line.restart
    tankA := .powerOn
    tankB := .powerOn
    mixes := Vector.replicate 6 none
    batchQueue := []
    mixer := .idle
    phaseTimer := 0
    plant := .default
    points := Vector.replicate 256 ⟨0, 0⟩
    windows := Vector.replicate 16 none
    envelopes := Vector.replicate 4 none
    book := []
    holes := []
    gauges := Vector.replicate 12 .powerOn
    responses := .default
    lineHolds := Vector.replicate 8 .cleared
    plantHold := .cleared
    results := [] }

/-- RESTART as an order line takes it (R177). Its own line has ended, which has emptied the buffer of it, and it does not act on
a line still being received (R165). -/
def orderRestart (s : State) : State :=
  s.engineer <| s.judge [(!(allLines.all fun n => (s.line n).atRest), .state)] s.restarted

/-- The receive buffer emptied and the spoiled mark cleared (R165, R177). -/
def State.emptyBuffer (s : State) : State := { s with serial := { s.serial with buffer := [], spoiled := false, long := false } }

/-- RESTART as a command of its own: what the receive buffer holds is taken as the order's own line, and is emptied (R165,
R177; notes/assumptions/8.md). -/
def commandRestart (s : State) : State :=
  s.engineer <| s.judge [(!(allLines.all fun n => (s.line n).atRest), .state)] s.restarted.emptyBuffer

/-! ## Meanings -/

/-- MIXDEF. -/
def execMixdef (k : Nat) (m : Mix) (s : State) : Host.Outcome State Fault Refusal := .next (orderMixdef k m s)

/-- MIXDEF_READ. -/
def execMixdefRead (k : Nat) (s : State) : Host.Outcome State Fault Refusal := .next (orderMixdefRead k s)

/-- DROPMIX. -/
def execDropmix (k : Nat) (s : State) : Host.Outcome State Fault Refusal := .next (orderDropmix k s)

/-- ENVDEF. -/
def execEnvdef (e : Nat) (r : Envelope) (s : State) : Host.Outcome State Fault Refusal := .next (orderEnvdef e r s)

/-- ENVDEF_READ. -/
def execEnvdefRead (e : Nat) (s : State) : Host.Outcome State Fault Refusal := .next (orderEnvdefRead e s)

/-- PROFILE. -/
def execProfile (w base count : Nat) (s : State) : Host.Outcome State Fault Refusal := .next (orderProfile w base count s)

/-- PROFILE_READ. -/
def execProfileRead (w : Nat) (s : State) : Host.Outcome State Fault Refusal := .next (orderProfileRead w s)

/-- POINT. -/
def execPoint (i target dwell : Nat) (s : State) : Host.Outcome State Fault Refusal := .next (orderPoint i target dwell s)

/-- POINT_READ. -/
def execPointRead (i : Nat) (s : State) : Host.Outcome State Fault Refusal := .next (orderPointRead i s)

/-- RESPONSE. -/
def execResponse (kind : Option DetectionKind) (act : Option Action) (s : State) : Host.Outcome State Fault Refusal :=
  .next (orderResponse kind act s)

/-- RESPONSE_READ. -/
def execResponseRead (kind : Option DetectionKind) (s : State) : Host.Outcome State Fault Refusal :=
  .next (orderResponseRead kind s)

/-- RESTART. -/
def execRestart (s : State) : Host.Outcome State Fault Refusal := .next (commandRestart s)

end Sys2Proof.Machine
end

