-- ==== Sys2Proof/Machine/Serial.lean ====
section
/-! DEFINITION. The serial line (R165, R166), the reading of a line as an order (R167, and the checks NAME and FORM of R168),
and the transmission of replies. The checks KEY and RANGE are made by each order's own meaning. -/

namespace Sys2Proof.Machine

/-! ## Fields and words (R167) -/

/-- The fields of a line: the runs of characters between its spaces (R167). -/
def fieldsOf : Text → List Text
  | [] => []
  | ' ' :: cs => fieldsOf cs
  | c :: cs =>
    match cs with
    | [] => [[c]]
    | ' ' :: _ => [c] :: fieldsOf cs
    | _ :: _ =>
      match fieldsOf cs with
      | f :: fs => (c :: f) :: fs
      | [] => [[c]]

/-- A decimal digit. -/
def isDigit (c : Char) : Bool := '0' ≤ c && c ≤ '9'

/-- The value of a run of decimal digits. -/
def digitsValue (t : Text) : Nat := t.foldl (fun v c => v * 10 + (c.toNat - '0'.toNat)) 0

/-- A numeric field: a run of decimal digits, or none where it is malformed (R167). -/
def numberOf (t : Text) : Option Nat := if !t.isEmpty && t.all isDigit then some (digitsValue t) else none

/-- The member of a fixed set that a word names (R167). -/
def named {α : Type} (name : α → String) (all : List α) (t : Text) : Option α := all.find? fun x => (name x).toList == t

/-- The pieces of a field between its commas. -/
def splitCommas : Text → List Text
  | [] => [[]]
  | ',' :: cs => [] :: splitCommas cs
  | c :: cs =>
    match splitCommas cs with
    | f :: fs => (c :: f) :: fs
    | [] => [[c]]

/-- Every entry of a list of options, or none where one is absent. -/
def allSome {α : Type} : List (Option α) → Option (List α)
  | [] => some []
  | some x :: xs => (allSome xs).map (x :: ·)
  | none :: _ => none

/-- A set field: its members' names joined by commas, or NONE (R140). -/
def setOf {α : Type} (name : α → String) (all : List α) (t : Text) : Option (List α) :=
  if t = "NONE".toList then some [] else allSome ((splitCommas t).map (named name all))

/-- An agitator field. -/
def agitatorOf : Text → Option AgitatorId := named tankName [.tankA, .tankB]

/-- A field that holds an order's optional word (R167). -/
def optWordOf (w : String) (t : Text) : OptWord := if t = w.toList then .given else .other

/-- A kind of detection (R148). -/
def kindOf : Text → Option DetectionKind := named detectionName [.drop, .surge, .overp, .packer, .comm, .sensor]

/-- An action (R148). -/
def actionOf : Text → Option Action := named actionName [.report, .pause, .endStage, .group, .all]

/-- The hold of POLL: 0 to 7, or P (R168, R174). -/
def holdOf (t : Text) : Option HoldName :=
  if t = ['P'] then some .plant else (numberOf t).bind fun n => (lineOf n).map .line

/-! ## SET's scopes and fields (R170) -/

/-- A scope of SET: a line or a gauge by its number, an agitator, or PLANT. -/
inductive Scope where
  | line (n : Nat)
  | gauge (g : Nat)
  | agitator (a : AgitatorId)
  | plant
deriving DecidableEq, Repr

/-- The number of a scope letter's digits, written without leading zeros. -/
def scopeNumber (t : Text) : Option Nat := (numberOf t).bind fun n => if Nat.toDigits 10 n = t then some n else none

/-- The scope that a field names (R170). -/
def scopeOf (t : Text) : Option Scope :=
  if t = "PLANT".toList then some .plant
  else match agitatorOf t, t with
    | some a, _ => some (.agitator a)
    | none, 'L' :: ds => (scopeNumber ds).map .line
    | none, 'G' :: ds => (scopeNumber ds).map .gauge
    | none, _ => none

/-- The numeric line settings, in the order of 2.2. -/
def lineNumbers : List LineNumber :=
  [.hose, .pulse, .cspan, .pspan, .seatp, .gain, .slew, .rmax, .crate, .primet, .washt, .shutin, .relp, .drop, .dfloor,
    .surge, .comm, .pmargin]

/-- The line setting that a field names (2.2, R140). -/
def lineSettingOf (t : Text) : Option LineSetting :=
  if t = "CHECKS".toList then some .checks
  else if t = "HOLDON".toList then some .holdon
  else (named lineNumberName lineNumbers t).map .number

/-- The members of CHECKS (R140). -/
def checkName : CheckName → String
  | .drop => "DROP"
  | .surge => "SURGE"
  | .overp => "OVER"
  | .packer => "PACKER"
  | .comm => "COMM"

/-- The members of HOLDON (R140). -/
def holdOnName : HoldOnName → String
  | .switch => "SWITCH"
  | .step => "STEP"
  | .rate => "RATE"

/-- The agitator setting that a field names (R93). -/
def tankSettingOf : Text → Option AgitatorSetting := named tankSettingName [.cap, .low]

/-- The plant setting that a field names (R93). -/
def plantSettingOf : Text → Option PlantSetting := named plantSettingName [.dumpt, .batcht, .batchv, .stagger]

/-- The circulation setting that a field names (R161). -/
def circSettingOf : Text → Option CircSetting := named circSettingName [.circi, .circd]

/-- The gauge setting that a field names (R129). -/
def gaugeSettingOf : Text → Option GaugeSetting := named gaugeSettingName [.on, .span, .warn, .alarm, .hyst]

/-! ## Reading a line as an order (R167, R168) -/

/-- A numeric field is read by `k`, or the order is malformed (R168). -/
def withNumber (t : Text) (k : Nat → Except Reason Instr) : Except Reason Instr :=
  match numberOf t with
  | some n => k n
  | none => .error .form

/-- An order whose fields are all numbers. -/
def withNumbers (ts : List Text) (k : List Nat → Except Reason Instr) : Except Reason Instr :=
  match allSome (ts.map numberOf) with
  | some ns => k ns
  | none => .error .form

/-- An order line `name n`. -/
def oneLine (k : Nat → Instr) : List Text → Except Reason Instr
  | [n] => withNumber n fun n => .ok (k n)
  | _ => .error .form

/-- An order without fields. -/
def noFields (i : Instr) : List Text → Except Reason Instr
  | [] => .ok i
  | _ => .error .form

/-- SET scope field value. A scope that does not exist is read as the order that KEY and then RANGE refuse. -/
def readSetting (scope field value : Text) : Except Reason Instr :=
  match scopeOf scope with
  | some (.line n) =>
    match lineSettingOf field with
    | some (.number f) => withNumber value fun v => .ok (.setLine n (.number f v))
    | some .checks => .ok (.setLine n (.checks (setOf checkName [.drop, .surge, .overp, .packer, .comm] value)))
    | some .holdon => .ok (.setLine n (.holdon (setOf holdOnName [.switch, .step, .rate] value)))
    | none => .ok (.setLine n .unknown)
  | some (.agitator a) =>
    match tankSettingOf field with
    | some f => withNumber value fun v => .ok (.setAgitatorPlant (.agitator a (some f) v))
    | none => .ok (.setAgitatorPlant (.agitator a none 0))
  | some .plant =>
    if field = "METHOD".toList then .ok (.setPlantMethod (named methodName [.down, .up] value))
    else match circSettingOf field, plantSettingOf field with
      | some f, _ => withNumber value fun v => .ok (.setPlantCirc f v)
      | none, some f => withNumber value fun v => .ok (.setAgitatorPlant (.plant (some f) v))
      | none, none => .ok (.setAgitatorPlant (.plant none 0))
  | some (.gauge g) =>
    match gaugeSettingOf field with
    | some f => withNumber value fun v => .ok (.setGauge g (some f) v)
    | none => .ok (.setGauge g none 0)
  | none => .ok (.setRead none)

/-- The scope and field of SET's read form (R170). -/
def settingOf (scope field : Text) : Option SettingName :=
  match scopeOf scope with
  | some (.line n) =>
    match lineOf n, lineSettingOf field with
    | some n, some f => some (.line n f)
    | _, _ => none
  | some (.agitator a) => (tankSettingOf field).map (.agitator a)
  | some .plant =>
    if field = "METHOD".toList then some .method
    else match circSettingOf field with
      | some f => some (.circ f)
      | none => (plantSettingOf field).map .plant
  | some (.gauge g) =>
    match gaugeOf g, gaugeSettingOf field with
    | some g, some f => some (.gauge g f)
    | _, _ => none
  | none => none

/-- SET's two forms. -/
def readSet : List Text → Except Reason Instr
  | [scope, field] => .ok (.setRead (settingOf scope field))
  | [scope, field, value] => readSetting scope field value
  | _ => .error .form

/-- MIXDEF's two forms. -/
def readMixdef : List Text → Except Reason Instr
  | [k] => withNumber k fun k => .ok (.mixdefRead k)
  | k :: tag :: fs => withNumbers (k :: fs) fun
    | [k, wc, density, friction, settime] => .ok (.mixdef k ⟨tag, wc, density, friction, settime⟩)
    | _ => .error .form
  | _ => .error .form

/-- ENVDEF's two forms. -/
def readEnvdef (fs : List Text) : Except Reason Instr :=
  withNumbers fs fun
    | [e] => .ok (.envdefRead e)
    | [e, a, b, c, d, f, g, h, i] => .ok (.envdef e ⟨a, b, c, d, f, g, h, i⟩)
    | _ => .error .form

/-- PROFILE's two forms. -/
def readProfile (fs : List Text) : Except Reason Instr :=
  withNumbers fs fun
    | [w] => .ok (.profileRead w)
    | [w, base, count] => .ok (.profile w base count)
    | _ => .error .form

/-- POINT's two forms. -/
def readPoint (fs : List Text) : Except Reason Instr :=
  withNumbers fs fun
    | [i] => .ok (.pointRead i)
    | [i, target, dwell] => .ok (.point i target dwell)
    | _ => .error .form

/-- RESPONSE's two forms. -/
def readResponse : List Text → Except Reason Instr
  | [k] => .ok (.responseRead (kindOf k))
  | [k, a] => .ok (.response (kindOf k) (actionOf a))
  | _ => .error .form

/-- POLL h. -/
def readPoll : List Text → Except Reason Instr
  | [h] => .ok (.poll (holdOf h))
  | _ => .error .form

/-- CLOCK [s]. -/
def readClock : List Text → Except Reason Instr
  | [] => .ok (.clock none)
  | [v] => withNumber v fun v => .ok (.clock (some v))
  | _ => .error .form

/-- PRIME n a. -/
def readPrime : List Text → Except Reason Instr
  | [n, a] => withNumber n fun n => .ok (.prime n (agitatorOf a))
  | _ => .error .form

/-- SEAT n hole stage [REGROUT]. -/
def readSeat : List Text → Except Reason Instr
  | [n, hole, k] => withNumber n fun n => withNumber k fun k => .ok (.seat n hole k .absent)
  | [n, hole, k, w] => withNumber n fun n => withNumber k fun k => .ok (.seat n hole k (optWordOf "REGROUT" w))
  | _ => .error .form

/-- INJECT n e w m [RELEASE]. -/
def readInject : List Text → Except Reason Instr
  | [n, e, w, m] => withNumbers [n, e, w, m] fun
    | [n, e, w, m] => .ok (.inject n e w m .absent)
    | _ => .error .form
  | [n, e, w, m, r] => withNumbers [n, e, w, m] fun
    | [n, e, w, m] => .ok (.inject n e w m (optWordOf "RELEASE" r))
    | _ => .error .form
  | _ => .error .form

/-- RELEASE n [FORCE]. -/
def readRelease : List Text → Except Reason Instr
  | [n] => withNumber n fun n => .ok (.release n .absent)
  | [n, w] => withNumber n fun n => .ok (.release n (optWordOf "FORCE" w))
  | _ => .error .form

/-- MIX n k. -/
def readMix (fs : List Text) : Except Reason Instr :=
  withNumbers fs fun
    | [n, k] => .ok (.mix n k)
    | _ => .error .form

/-- STAGE ADD hole stage top bottom [g [g]]. -/
def readStageAdd : List Text → Except Reason Instr
  | hole :: fs => withNumbers fs fun
    | [k, top, bottom] => .ok (.stageAdd hole k top bottom [])
    | [k, top, bottom, g] => .ok (.stageAdd hole k top bottom [g])
    | [k, top, bottom, g, h] => .ok (.stageAdd hole k top bottom [g, h])
    | _ => .error .form
  | _ => .error .form

/-- An order with a hole and a stage. -/
def holeStage (k : Tag → Nat → Instr) : List Text → Except Reason Instr
  | [hole, stage] => withNumber stage fun n => .ok (k hole n)
  | _ => .error .form

/-- An order with a hole. -/
def oneHole (k : Tag → Instr) : List Text → Except Reason Instr
  | [hole] => .ok (k hole)
  | _ => .error .form

/-- BOOK [i]. -/
def readBook : List Text → Except Reason Instr
  | [] => .ok (.book none)
  | [i] => withNumber i fun i => .ok (.book (some i))
  | _ => .error .form

/-- An order with an agitator and a number, LEVEL or BATCH. -/
def agitatorNumber (k : Option AgitatorId → Nat → Instr) : List Text → Except Reason Instr
  | [a, v] => withNumber v fun v => .ok (k (agitatorOf a) v)
  | _ => .error .form

/-- The orders of 10.3 whose name is one word, with the reader of each one's fields. -/
def oneWordOrders : List (String × (List Text → Except Reason Instr)) :=
  [("SET", readSet), ("MIXDEF", readMixdef), ("DROPMIX", oneLine .dropmix), ("ENVDEF", readEnvdef), ("PROFILE", readProfile),
    ("POINT", readPoint), ("RESPONSE", readResponse), ("RESTART", noFields .restart), ("STATUS", noFields .status),
    ("LINE", oneLine .line), ("POLL", readPoll), ("TAKE", noFields .take), ("CLOCK", readClock), ("PRIME", readPrime),
    ("SEAT", readSeat), ("INJECT", readInject)] ++
  [("CANCEL", oneLine .cancel), ("PAUSE", oneLine .pause), ("RESUME", oneLine .resume), ("END", oneLine .endStage),
    ("ABORT", oneLine .abort), ("RELEASE", readRelease), ("MIX", readMix), ("CIRCULATE", oneLine .circulate),
    ("WASH", oneLine .wash), ("TARE", oneLine .tare), ("STAGE", holeStage .stage), ("BOOK", readBook), ("MAP", oneHole .map),
    ("LEVEL", agitatorNumber .level), ("BATCH", agitatorNumber .batch), ("PLANT", noFields .plant), ("GAUGE", oneLine .gauge)]

/-- The orders of 10.3 whose name is two words (R167). -/
def twoWordOrders : List (String × String × (List Text → Except Reason Instr)) :=
  [("STAGE", "ADD", readStageAdd), ("STAGE", "DROP", holeStage .stageDrop), ("HOLE", "CLEAR", oneHole .holeClear),
    ("UPLIFT", "CLEAR", oneLine .upliftClear)]

/-- The order that a line's fields spell, or NAME or FORM (R167, R168). -/
def orderOf (fs : List Text) : Except Reason Instr :=
  match fs with
  | [] => .error .name
  | name :: rest =>
    match twoWordOrders.find? fun o => o.1.toList == name && rest.head? == some o.2.1.toList with
    | some o => o.2.2 (rest.drop 1)
    | none =>
      match oneWordOrders.find? fun o => o.1.toList == name with
      | some o => o.2 rest
      | none => .error .name

/-! ## Taking a line -/

/-- An order taken from the serial line acts as its command does. The commands that are no orders have no spelling on the
line. -/
def runOrder (i : Instr) (s : State) : State :=
  match i with
  | .setLine n v => orderSetLine n v s
  | .setAgitatorPlant v => orderSetAgitatorPlant v s
  | .setPlantMethod m => orderSetPlantMethod m s
  | .setPlantCirc f v => orderSetPlantCirc f v s
  | .setGauge g f v => orderSetGauge g f v s
  | .setRead w => orderSetRead w s
  | .mixdef k m => orderMixdef k m s
  | .mixdefRead k => orderMixdefRead k s
  | .dropmix k => orderDropmix k s
  | .envdef e r => orderEnvdef e r s
  | .envdefRead e => orderEnvdefRead e s
  | .profile w b c => orderProfile w b c s
  | .profileRead w => orderProfileRead w s
  | .point i t d => orderPoint i t d s
  | .pointRead i => orderPointRead i s
  | .response k a => orderResponse k a s
  | .responseRead k => orderResponseRead k s
  | .restart => orderRestart s
  | .status => orderStatus s
  | .line n => orderLine n s
  | .poll h => orderPoll h s
  | .take => orderTake s
  | .clock v => orderClock v s
  | .prime n a => orderPrime n a s
  | .seat n h k r => orderSeat n h k r s
  | .inject n e w m r => orderInject n e w m r s
  | .cancel n => orderCancel n s
  | .pause n => orderPause n s
  | .resume n => orderResume n s
  | .endStage n => orderEndStage n s
  | .abort n => orderAbort n s
  | .release n f => orderRelease n f s
  | .mix n k => orderMix n k s
  | .circulate n => orderCirculate n s
  | .wash n => orderWash n s
  | .tare n => orderTare n s
  | .stageAdd h k t b gs => orderStageAdd h k t b gs s
  | .stageDrop h k => orderStageDrop h k s
  | .stage h k => orderStage h k s
  | .book i => orderBook i s
  | .map h => orderMap h s
  | .holeClear h => orderHoleClear h s
  | .level a v => orderLevel a v s
  | .batch a k => orderBatch a k s
  | .plant => orderPlant s
  | .gauge g => orderGauge g s
  | .upliftClear g => orderUpliftClear g s
  | .powerOn _ | .characterReceived _ _ | .orderLineRefused | .heldLineTaken | .configurationKeyTurn _ | .siteStopOpen
  | .siteStopClose | .keyToLocal _ | .keyToRemote _ | .lineSampleEvent _ _ | .sensor _ _ | .tareDone _ _ | .primed _ _
  | .seated _ _ | .seatFail _ _ | .shutInEnd _ _ | .decayed _ _ | .decaySlow _ _ | .released _ _ | .deflateSlow _ _
  | .washed _ _ | .profileStep _ _ | .refusal _ _ | .dropReferenceTaken _ _ | .holdOffEnd _ _ | .packerLow _ _ | .fouled _ _
  | .circulationRunDue _ _ | .circulationRunEnd _ _ | .gaugeSampleEvent _ _ | .gaugeFault _ _ | .gaugeRestored _ _
  | .partClockSecond | .switchover _ | .mixerTakesRequest | .dumpEnd | .batchDone | .startGrant _ => s

/-- The reply of the order line alone to a line that cannot be taken as an order, in the order of R166's table. -/
def EndedLine.refused (l : EndedLine) : Option Reason :=
  if l.spoiled then some .line
  else if l.long then some .long
  else if l.text.all (· == ' ') then some .name
  else none

/-- A line is taken: it is answered by the order line (R166), refused with NAME or FORM (R168), or acts as its order. -/
def State.takeLine (s : State) (l : EndedLine) : State :=
  match l.refused with
  | some r => s.refuse r
  | none =>
    match orderOf (fieldsOf l.text) with
    | .ok i => runOrder i s
    | .error r => s.refuse r

/-! ## Characters (R165, R166) -/

/-- The line in the receive buffer, as a carriage return would end it; `spoils` is whether the carriage return itself sets
the spoiled mark (R166). -/
def OrderLine.ended (o : OrderLine) (spoils : Bool) : EndedLine := ⟨o.buffer, o.spoiled || spoils, o.long⟩

/-- The receive buffer emptied and its marks cleared (R165). -/
def OrderLine.emptied (o : OrderLine) : OrderLine := { o with buffer := [], spoiled := false, long := false }

/-- A character that ends no line: an errored one sets the spoiled mark, a line feed is ignored, and any other joins the buffer
or, at 96 characters, makes the line long (R165). -/
def OrderLine.join (c : Byte) (bad : Bool) (o : OrderLine) : OrderLine :=
  if bad then { o with spoiled := true }
  else if c = 10 then o
  else if o.buffer.length < Config.bufferCap then { o with buffer := o.buffer ++ [Char.ofNat c.toNat] }
  else { o with long := true }

/-- A carriage return ends the line in the buffer: it is taken at once, or held where a reply is still due or being sent
(R165, R166). -/
def State.endLine (s : State) : State :=
  let l := s.serial.ended (s.serial.phase == .sending)
  let s' := { s with serial := s.serial.emptied }
  if s.serial.phase = .quiet then s'.takeLine l else { s' with serial := { s'.serial with held := s'.serial.held ++ [l] } }

/-- A character is received; during a reply it sets the spoiled mark, errored or not (R165, R166). -/
def State.receive (s : State) (c : Byte) (bad : Bool) : State :=
  if c = 13 ∧ bad = false then s.endLine
  else
    let o := s.serial.join c bad
    { s with serial := { o with spoiled := o.spoiled || o.phase == .sending } }

/-! ## Replies and held lines (R166) -/

/-- The present reply has been sent, and the oldest held line, if there is one, is taken as it then stands (R166). -/
def State.replySent (s : State) : State :=
  match s.serial.held with
  | [] => { s with serial := { s.serial with phase := .quiet } }
  | l :: ls => { s with serial := { s.serial with phase := .quiet, held := ls } }.takeLine l

/-- What the order line does while no command waits: a due reply begins, a reply under way ends (R166). DESIGN CHOICE:
notes/assumptions/4.md. -/
def State.advanceReply (s : State) : State :=
  match s.serial.phase with
  | .quiet => s
  | .due => { s with serial := { s.serial with phase := .sending } }
  | .sending => s.replySent

/-! ## Meanings -/

/-- CHARACTER_RECEIVED. -/
def execCharacterReceived (c : Byte) (bad : Bool) (s : State) : Host.Outcome State Fault Refusal := .next (s.receive c bad)

/-- ORDER_LINE_REFUSED: the carriage return of a line that the order line alone answers, received with no reply due; where
the line is not such a one the event does not come about (notes/assumptions/1.md). -/
def execOrderLineRefused (s : State) : Host.Outcome State Fault Refusal :=
  .next (if s.serial.phase = .quiet ∧ ((s.serial.ended false).refused).isSome = true then s.endLine else s)

/-- HELD_LINE_TAKEN: the reply that a held line waits behind has been sent, and the line is taken; with no line held the event
does not come about (notes/assumptions/1.md). -/
def execHeldLineTaken (s : State) : Host.Outcome State Fault Refusal :=
  .next (if s.serial.held.isEmpty then s else s.replySent)

end Sys2Proof.Machine
end

