-- ==== Sys2Proof/Machine/Dispatch.lean ====
section
/-! DEFINITION. The meaning of every command: one arm for each constructor of Instr, each one direct call of its meaning. -/

namespace Sys2Proof
namespace Machine

def exec (i : Instr) (s : State) : Host.Outcome State Fault Refusal :=
  match i with
  | .powerOn w => Sys2Proof.Machine.execPowerOn w s
  | .characterReceived c bad => Sys2Proof.Machine.execCharacterReceived c bad s
  | .orderLineRefused => Sys2Proof.Machine.execOrderLineRefused s
  | .heldLineTaken => Sys2Proof.Machine.execHeldLineTaken s
  | .setLine n v => Sys2Proof.Machine.execSetLine n v s
  | .setAgitatorPlant v => Sys2Proof.Machine.execSetAgitatorPlant v s
  | .setPlantMethod m => Sys2Proof.Machine.execSetPlantMethod m s
  | .setPlantCirc f value => Sys2Proof.Machine.execSetPlantCirc f value s
  | .setGauge g f value => Sys2Proof.Machine.execSetGauge g f value s
  | .setRead w => Sys2Proof.Machine.execSetRead w s
  | .mixdef k m => Sys2Proof.Machine.execMixdef k m s
  | .mixdefRead k => Sys2Proof.Machine.execMixdefRead k s
  | .dropmix k => Sys2Proof.Machine.execDropmix k s
  | .envdef e r => Sys2Proof.Machine.execEnvdef e r s
  | .envdefRead e => Sys2Proof.Machine.execEnvdefRead e s
  | .profile w base count => Sys2Proof.Machine.execProfile w base count s
  | .profileRead w => Sys2Proof.Machine.execProfileRead w s
  | .point p target dwell => Sys2Proof.Machine.execPoint p target dwell s
  | .pointRead p => Sys2Proof.Machine.execPointRead p s
  | .response kind act => Sys2Proof.Machine.execResponse kind act s
  | .responseRead kind => Sys2Proof.Machine.execResponseRead kind s
  | .restart => Sys2Proof.Machine.execRestart s
  | .status => Sys2Proof.Machine.execStatus s
  | .line n => Sys2Proof.Machine.execLine n s
  | .poll h => Sys2Proof.Machine.execPoll h s
  | .take => Sys2Proof.Machine.execTake s
  | .clock value => Sys2Proof.Machine.execClock value s
  | .prime n a => Sys2Proof.Machine.execPrime n a s
  | .seat n hole stage regrout => Sys2Proof.Machine.execSeat n hole stage regrout s
  | .inject n e w m release => Sys2Proof.Machine.execInject n e w m release s
  | .cancel n => Sys2Proof.Machine.execCancel n s
  | .pause n => Sys2Proof.Machine.execPause n s
  | .resume n => Sys2Proof.Machine.execResume n s
  | .endStage n => Sys2Proof.Machine.execEndStage n s
  | .abort n => Sys2Proof.Machine.execAbort n s
  | .release n force => Sys2Proof.Machine.execRelease n force s
  | .mix n k => Sys2Proof.Machine.execMix n k s
  | .circulate n => Sys2Proof.Machine.execCirculate n s
  | .wash n => Sys2Proof.Machine.execWash n s
  | .tare n => Sys2Proof.Machine.execTare n s
  | .stageAdd hole stage top bottom gauges => Sys2Proof.Machine.execStageAdd hole stage top bottom gauges s
  | .stageDrop hole stage => Sys2Proof.Machine.execStageDrop hole stage s
  | .stage hole stage => Sys2Proof.Machine.execStage hole stage s
  | .book p => Sys2Proof.Machine.execBook p s
  | .map hole => Sys2Proof.Machine.execMap hole s
  | .holeClear hole => Sys2Proof.Machine.execHoleClear hole s
  | .level a litres => Sys2Proof.Machine.execLevel a litres s
  | .batch a k => Sys2Proof.Machine.execBatch a k s
  | .plant => Sys2Proof.Machine.execPlant s
  | .gauge g => Sys2Proof.Machine.execGauge g s
  | .upliftClear g => Sys2Proof.Machine.execUpliftClear g s
  | .configurationKeyTurn p => Sys2Proof.Machine.execConfigurationKeyTurn p s
  | .siteStopOpen => Sys2Proof.Machine.execSiteStopOpen s
  | .siteStopClose => Sys2Proof.Machine.execSiteStopClose s
  | .keyToLocal n => Sys2Proof.Machine.execKeyToLocal n s
  | .keyToRemote n => Sys2Proof.Machine.execKeyToRemote n s
  | .lineSampleEvent n x => Sys2Proof.Machine.execLineSampleEvent n x s
  | .sensor n x => Sys2Proof.Machine.execSensor n x s
  | .tareDone n x => Sys2Proof.Machine.execTareDone n x s
  | .primed n x => Sys2Proof.Machine.execPrimed n x s
  | .seated n x => Sys2Proof.Machine.execSeated n x s
  | .seatFail n x => Sys2Proof.Machine.execSeatFail n x s
  | .shutInEnd n x => Sys2Proof.Machine.execShutInEnd n x s
  | .decayed n x => Sys2Proof.Machine.execDecayed n x s
  | .decaySlow n x => Sys2Proof.Machine.execDecaySlow n x s
  | .released n x => Sys2Proof.Machine.execReleased n x s
  | .deflateSlow n x => Sys2Proof.Machine.execDeflateSlow n x s
  | .washed n x => Sys2Proof.Machine.execWashed n x s
  | .profileStep n x => Sys2Proof.Machine.execProfileStep n x s
  | .refusal n x => Sys2Proof.Machine.execRefusal n x s
  | .dropReferenceTaken n x => Sys2Proof.Machine.execDropReferenceTaken n x s
  | .holdOffEnd n x => Sys2Proof.Machine.execHoldOffEnd n x s
  | .packerLow n x => Sys2Proof.Machine.execPackerLow n x s
  | .fouled n x => Sys2Proof.Machine.execFouled n x s
  | .circulationRunDue n x => Sys2Proof.Machine.execCirculationRunDue n x s
  | .circulationRunEnd n x => Sys2Proof.Machine.execCirculationRunEnd n x s
  | .gaugeSampleEvent g current => Sys2Proof.Machine.execGaugeSampleEvent g current s
  | .gaugeFault g current => Sys2Proof.Machine.execGaugeFault g current s
  | .gaugeRestored g current => Sys2Proof.Machine.execGaugeRestored g current s
  | .partClockSecond => Sys2Proof.Machine.execPartClockSecond s
  | .switchover n => Sys2Proof.Machine.execSwitchover n s
  | .mixerTakesRequest => Sys2Proof.Machine.execMixerTakesRequest s
  | .dumpEnd => Sys2Proof.Machine.execDumpEnd s
  | .batchDone => Sys2Proof.Machine.execBatchDone s
  | .startGrant a => Sys2Proof.Machine.execStartGrant a s

end Machine
end Sys2Proof
end

