-- ==== Sys2Proof/Safety.lean ====
section
/-! DEFINITION. What counts as a safe part, in the terms the claims use: the conditions that the spec says always hold, each
with its rule; the classes of orders (10.3); and the sample on which nothing but a line's own timed work comes about. -/

namespace Sys2Proof

/-- An engineer order (10.3). -/
def Instr.engineerOrder : Instr → Bool
  | .setLine _ _ | .setAgitatorPlant _ | .setPlantMethod _ | .setPlantCirc _ _ | .setGauge _ _ _ | .setRead _ | .mixdef _ _
  | .mixdefRead _ | .dropmix _ | .envdef _ _ | .envdefRead _ | .profile _ _ _ | .profileRead _ | .point _ _ _
  | .pointRead _ | .response _ _ | .responseRead _ | .restart => true
  | _ => false

/-- An operator order (10.3). -/
def Instr.operatorOrder : Instr → Bool
  | .status | .line _ | .poll _ | .take | .clock _ | .prime _ _ | .seat _ _ _ _ | .inject _ _ _ _ _ | .cancel _ | .pause _
  | .resume _ | .endStage _ | .abort _ | .release _ _ | .mix _ _ | .circulate _ | .wash _ | .tare _ | .stageAdd _ _ _ _ _
  | .stageDrop _ _ | .stage _ _ | .book _ | .map _ | .holeClear _ | .level _ _ | .batch _ _ | .plant | .gauge _
  | .upliftClear _ => true
  | _ => false

namespace Machine

/-! ## Conditions that always hold -/

/-- While the site-stop loop is open every pump rate is 0 (R20, R152). -/
def State.PumpsStopped (s : State) : Prop := s.loop = .opened → ∀ n, (s.line n).fig.pumpRate = 0

/-- Every line's valves are as R20's table gives for its state, a circulation run goes on only in PRIMED, SEATED, ARMED or PAUSED,
and the pump rate is 0 in every state other than PRIMING, INJECTING and WASHING, except during a run (R20, R158). -/
def State.OutputsFollow (s : State) : Prop :=
  ∀ n, (s.line n).valves = valvesOf (s.line n).state (s.line n).circ.running ∧
    ((s.line n).circ.running = true → (s.line n).state.takesRuns = true) ∧
    ((s.line n).state ≠ .priming → (s.line n).state ≠ .injecting → (s.line n).state ≠ .washing →
      (s.line n).circ.running = false → (s.line n).fig.pumpRate = 0)

/-- Every store keeps to its size (R98, R115, R119, R165, R173, R180). -/
structure State.StoresBounded (s : State) : Prop where
  lineHolds : ∀ n : LineId, s.lineHolds[n].entries.length ≤ 2
  plantHold : s.plantHold.entries.length ≤ 4
  results : s.results.length ≤ 16
  batchQueue : s.batchQueue.length ≤ 8
  book : s.book.length ≤ 48
  holes : s.holes.length ≤ 16
  buffer : s.serial.buffer.length ≤ 96

/-- Every agitator's level is within its capacity and its low level below its capacity (R92, R93). -/
def State.LevelsBounded (s : State) : Prop :=
  ∀ t, (s.tank t).level ≤ (s.tank t).cap * 1000 ∧ (s.tank t).low < (s.tank t).cap

/-- Every gauge keeps hysteresis below warn below alarm (R128, R129), and among the defined mixes density strictly increases
with index (R89, R90). -/
def State.TablesOrdered (s : State) : Prop :=
  (∀ g, (s.gauge g).hyst < (s.gauge g).warn ∧ (s.gauge g).warn < (s.gauge g).alarm) ∧
  ∀ j k a b, s.mixEntry j = some a → s.mixEntry k = some b → j < k → a.density < b.density

/-- The pump rate of an INJECTING line stays within 0 and its RMAX (R19, R67). -/
def State.RatesBounded (s : State) : Prop :=
  ∀ n, (s.line n).state = .injecting → (s.line n).fig.pumpRate ≤ (s.line n).settings.rmax

/-- Each start queue holds ARMED lines that draw from its agitator, no line twice (R92, R109). -/
def State.QueuesArmed (s : State) : Prop :=
  ∀ t, (s.tank t).startQueue.Nodup ∧
    ∀ n ∈ (s.tank t).startQueue, (s.line n).state = .armed ∧ (s.line n).draw = some t

/-- No gauge in ALARM has a watcher in INJECTING or ARMED (R134). -/
def State.AlarmsStop (s : State) : Prop :=
  ∀ g n, (s.gauge g).state = .alarm → g ∈ (s.line n).watched → (s.line n).state ≠ .injecting ∧ (s.line n).state ≠ .armed

/-- The result queue holds at most 16, and a line holds a pending result only while it holds 16 (R180). -/
def State.PendingFull (s : State) : Prop :=
  s.results.length ≤ 16 ∧ ∀ n, (s.line n).pendingResult.isSome = true → s.results.length = 16

/-- No two records of the book share a hole and stage, and every record's hole has its one entry in the completion map
(R115, R116, R119). -/
def State.BookMapped (s : State) : Prop :=
  (s.book.map fun r => (r.hole, r.stage)).Nodup ∧ (s.holes.map (·.hole)).Nodup ∧ ∀ r ∈ s.book, r.hole ∈ s.holes.map (·.hole)

/-! ## The release of a binding -/

/-- The completion map of `t` is that of `s` with the mark of `b`'s stage set in the entry of `b`'s hole, where the map has one,
and every other mark as before; the marks of stages 1 to 20 are numbered from 0 (R119, R125). -/
def State.MarksStage (s t : State) (b : StageRef) : Prop :=
  t.holes.map (·.hole) = s.holes.map (·.hole) ∧
  ∀ (i : Nat) (e e' : HoleEntry), s.holes[i]? = some e → t.holes[i]? = some e' →
    ∀ k : Fin 20, e'.marks[k] = true ↔ e.marks[k] = true ∨ (e.hole = b.hole ∧ k.val = b.stage - 1)

/-- The book of `t` is that of `s` with `f` applied to the record of `b`'s hole and stage. -/
def State.RecordBecomes (s t : State) (b : StageRef) (f : StageRecord → StageRecord) : Prop :=
  t.book = s.book.map fun q => if q.hole = b.hole ∧ q.stage = b.stage then f q else q

/-- What the release of the binding `b` with end reason `r` does to the book and the map (R41, R125): a DONE reason makes the record
DONE and sets the mark; ABORTED and FOULED return it to OPEN with the interrupted count raised; with no reason fixed it returns
to OPEN. -/
def State.Releases (s t : State) (b : StageRef) (r : Option EndReason) : Prop :=
  (∀ w, r = some w → w ≠ .aborted → w ≠ .fouled →
    s.RecordBecomes t b (fun q => { q with status := .done }) ∧ s.MarksStage t b) ∧
  (r = some .aborted ∨ r = some .fouled →
    s.RecordBecomes t b (fun q => { q with status := .opened, interrupted := min 255 (q.interrupted + 1) }) ∧ t.holes = s.holes) ∧
  (r = none → s.RecordBecomes t b (fun q => { q with status := .opened }) ∧ t.holes = s.holes)

/-! ## Settling -/

/-- `v` is what an act that leaves `u` becomes: the settled `u` where the act is an event of R114, which `told` says, and else `u`
itself. -/
def State.SettledIf (u : State) (told : Prop) (v : State) : Prop := (told → v = u.settle) ∧ (¬told → v = u)

/-! ## A calm sample -/

/-- Line `n` waits in no start queue. -/
def State.Unqueued (s : State) (n : LineId) : Prop := ∀ t, n ∉ (s.tank t).startQueue

/-- The collar pressure that a sample `x` hands on for line `n` (R1, R7). -/
def State.pcOf (s : State) (n : LineId) (x : Sample) : Nat := (s.line n).inputs.samplePc (s.line n).settings x

/-- The packer pressure that a sample `x` hands on for line `n` (R1, R3). -/
def State.packerOf (s : State) (n : LineId) (x : Sample) : Nat :=
  ((s.line n).inputs.packer.sample (s.line n).settings.pspan x.packer).value

/-- On a sample of line `n` no circulation run is in progress, and the grout age, where there is one, stays below CIRCI and below
the set-time limit whatever the sample does. -/
structure State.AgeCalm (s : State) (n : LineId) : Prop where
  noRun : (s.line n).circ.running = false
  noRunDue : ∀ a, (s.line n).circ.age = some a → (a + 1) / 10 < s.plant.circi
  unset : ∀ a lim, (s.line n).circ.age = some a → s.ageLimit (s.line n) = some lim → (a + 1) / 10 < lim

/-- On sample `x` of line `n` what comes about is the line's own timed work alone: besides the calm of its grout age, no input
raises SENSOR and no tare run is present. -/
structure State.Calm (s : State) (n : LineId) (x : Sample) : Prop extends s.AgeCalm n where
  noSensor : (s.line n).sensorsRaised x = 0
  noTare : (s.line n).inputs.tare = none

/-- In the state that a sample leaves it in, neither the packer check nor the communication check of line `n` can raise its
event: the packer count is below 9, and the collar pressure below the seat reference by more than COMM allows (R145, R146). -/
structure State.SeatCalm (s : State) (n : LineId) (x : Sample) : Prop where
  packer : (s.line n).latch.packerCount < 9
  comm : s.pcOf n x < (s.line n).seatRef + (s.line n).settings.comm

/-- Line `n` with the inputs of sample `x` and its grout age one sample on, no grout moving; all else as it stands. -/
def State.sampled (s : State) (n : LineId) (x : Sample) : Line :=
  let l := s.line n
  { l with
    inputs := l.inputs.sample l.settings x
    circ := if l.circ.age.isSome then l.circ.sample false false (l.key == .locl) else l.circ }

/-- Two lines agree in everything but what the packer check and the communication check keep (R145, R146). -/
def Line.SameButChecks (a b : Line) : Prop :=
  a = { b with latch := { b.latch with
    packerCount := a.latch.packerCount, packerMark := a.latch.packerMark, commMark := a.latch.commMark } }

/-- The state timer of line `n`, in seconds, after a sample on which it is not frozen (R21). -/
def State.timerAfter (s : State) (n : LineId) : Nat := min 18000 ((s.line n).stateTicks + 1) / 10

/-- An event of line `n` stamped with the part clock (2.14, R173). -/
def State.ownEvent (s : State) (n : LineId) (k : EventKind) (v w : Option EventValue := none) : Event :=
  ⟨k, s.clock, some (.line n), v, w⟩

/-- `t` differs from `s` in line `n` and its hold at most. -/
def State.OnlyLine (s t : State) (n : LineId) : Prop :=
  (∀ m, m ≠ n → t.line m = s.line m) ∧ (∀ m : LineId, m ≠ n → t.lineHolds[m] = s.lineHolds[m]) ∧
  t = { s with lines := t.lines, lineHolds := t.lineHolds }

end Machine
end Sys2Proof
end

