-- ==== Sys2Proof/Certificates/Slice0/Obligations.lean ====
section
/-! DEFINITION. The statements for the provers, from the numbered rules of spec/ where a rule gives the words. An order's
statement names the state that it leaves and the reply that it is answered; a state written `{ s with … }` says that all
else is unchanged. -/

section
open Sys2Proof Sys2Proof.Machine

/-! ## The machine as a whole -/

/-- A step takes the command at the front of the queue and executes it with the queue's rest. -/
def Obligations.StepTakesTheFrontCommand : Prop :=
  ∀ (c : Instr) (rest : List Instr) (s : State),
    s.pending = c :: rest → step s = exec c { s with pending := rest }

/-- With no command waiting the part idles but for its reply: a due reply begins, and a reply under way ends and lets the
oldest held line be taken. The model's choice (notes/assumptions/4.md). -/
def Obligations.IdleStepAdvancesTheReply : Prop :=
  ∀ s : State, s.pending = [] →
    (s.serial.phase = .quiet → step s = .next s) ∧
    (s.serial.phase = .due → step s = .next { s with serial := { s.serial with phase := .sending } }) ∧
    (s.serial.phase = .sending → s.serial.held = [] →
      step s = .next { s with serial := { s.serial with phase := .quiet } }) ∧
    ∀ l ls, s.serial.phase = .sending → s.serial.held = l :: ls →
      step s = .next ({ s with serial := { s.serial with phase := .quiet, held := ls } }.takeLine l)

/-- Every command is executed without a fault or a refusal, and none touches the queue of the commands that wait. -/
def Obligations.EveryCommandLeavesTheQueue : Prop :=
  ∀ (c : Instr) (s : State), ∃ t : State, exec c s = .next t ∧ t.pending = s.pending

/-- An order that is answered NO has changed nothing but the reply (R168). -/
def Obligations.RefusedOrdersChangeNothing : Prop :=
  ∀ (c : Instr) (s t : State) (r : Reason), (c.engineerOrder || c.operatorOrder) = true →
    exec c s = .next t → t.serial.reply = some (.no r) →
    t = { s with serial := { s.serial with reply := some (.no r), phase := .due } }

/-- With the configuration key in RUN every engineer order is refused with KEY (R168, R169), and a turn of the key changes
the key's position alone (R169). -/
def Obligations.EngineerOrdersNeedTheKey : Prop :=
  (∀ (c : Instr) (s : State), c.engineerOrder = true → s.config = .run → exec c s = .next (s.refuse .key)) ∧
  ∀ (p : ConfigKey) (s : State), exec (.configurationKeyTurn p) s = .next { s with config := p }

/-! ## Power-on -/

/-- The lines after power-on (R8, R18, R48, R139, R155, R156). The tables, the plant and the queues after power-on (R76, R77, R83,
R89, R92, R98, R106, R115, R119, R121, R128, R148, R153, R165, R173, R176, R180). -/
def Obligations.PowerOnSetsThePart : Prop :=
  (∀ (w : Switches) (s : State), ∃ t : State, exec (.powerOn w) s = .next t ∧ ∀ n : LineId,
     let l := t.line n
     l.state = .fouled ∧ l.pauseCause = some .power ∧ l.bound = none ∧ l.startClock = none ∧ l.endReason = none ∧
     l.watched = [] ∧ l.draw = none ∧ l.columnMix = none ∧ l.drawMix = none ∧ l.pendingMix = none ∧ l.envelope = none ∧
     l.window = none ∧ l.pendingResult = none ∧ l.heaveMax = none ∧
     l.key = (if n ∈ w.atLocal then .locl else .remote) ∧
     l.valves = ⟨false, false, false, true, true, false⟩ ∧
     l.fig = ⟨0, 0, [], 0, 0, 0, 0, [0, 0, 0, 0, 0, 0, 0, 0, 0, 0], none, false, 0, 0, 0, 0, 0, 0⟩ ∧
     l.inputs = ⟨⟨0, false, 0⟩, ⟨0, false, 0⟩, 0, 0, [0, 0, 0, 0, 0, 0, 0, 0, 0, 0], 0, 0, none⟩ ∧
     l.latch = ⟨none, 0, 0, false, false, 0, false, false⟩ ∧ l.circ = ⟨none, false, 0, false⟩ ∧
     l.regrout = false ∧ l.releaseFlag = false ∧ l.slowMark = false ∧ l.seatRef = 0 ∧ l.front = 0 ∧ l.stateTicks = 0 ∧
     l.condCount = 0 ∧ l.pauses = 0 ∧ l.mixChanges = 0 ∧ l.settings = Settings.default) ∧
  (∀ (w : Switches) (s : State), ∃ t : State, exec (.powerOn w) s = .next t ∧
     (∀ k, t.mixEntry k = none) ∧ (∀ e : EnvelopeId, t.envelopes[e] = none) ∧ (∀ d : WindowId, t.windows[d] = none) ∧
     (∀ i : PointId, t.points[i] = ⟨0, 0⟩) ∧
     (∀ a, t.tank a = ⟨.empty, none, 0, 1000, 200, [], 300⟩) ∧
     t.batchQueue = [] ∧ t.mixer = .idle ∧ t.phaseTimer = 0 ∧ t.plant = ⟨60, 180, 250, 20, 300, 30, .down⟩ ∧
     t.book = [] ∧ t.holes = [] ∧ t.results = [] ∧ t.clock = 0 ∧
     (∀ g, t.gauge g = ⟨.off, 5000, 100, 200, 20, 0, 0, 0, 0, 0⟩) ∧
     t.responses = ⟨.pause, .report, .report, .pause, .report, .pause⟩ ∧
     t.loop = w.loop ∧ t.config = w.config ∧
     t.serial.buffer = [] ∧ t.serial.spoiled = false ∧
     (∀ n : LineId, t.lineHolds[n] = ⟨[], false⟩) ∧
     t.plantHold = ⟨if w.loop = .opened then [⟨.siteStop, 0, none, none, none⟩] else [], false⟩)

/-! ## The serial line -/

/-- What a character that ends no line does to the receive buffer (R165, R166). That an errored carriage return ends no line, and
that a line feed received while a reply is sent spoils the line, are the model's reading (notes/assumptions/7.md). -/
def Obligations.CharactersJoinTheBuffer : Prop :=
  ∀ (c : Byte) (s : State),
    (s.serial.phase ≠ .sending →
      exec (.characterReceived c true) s = .next { s with serial := { s.serial with spoiled := true } } ∧
      exec (.characterReceived 10#8 false) s = .next s ∧
      (c ≠ 10#8 → c ≠ 13#8 → s.serial.buffer.length < 96 → exec (.characterReceived c false) s =
        .next { s with serial := { s.serial with buffer := s.serial.buffer ++ [Char.ofNat c.toNat] } }) ∧
      (c ≠ 10#8 → c ≠ 13#8 → 96 ≤ s.serial.buffer.length → exec (.characterReceived c false) s =
        .next { s with serial := { s.serial with long := true } })) ∧
    (s.serial.phase = .sending → ∀ bad, c ≠ 13#8 ∨ bad = true → ∃ t : State, exec (.characterReceived c bad) s = .next t ∧
      t.serial.spoiled = true ∧ t = { s with serial := t.serial })

/-- A carriage return with no reply due takes the buffer's line: it acts as the order that it spells, or is refused with NAME or
FORM, and the buffer is emptied and its marks cleared (R165, R168). A line that cannot be taken as an order is answered NO LINE,
NO LONG or NO NAME, in that order, and changes nothing else (R166). -/
def Obligations.CarriageReturnTakesTheOrder : Prop :=
  (∀ s : State, s.serial.phase = .quiet → s.serial.spoiled = false → s.serial.long = false → (∃ c ∈ s.serial.buffer, c ≠ ' ') →
     (∀ i, orderOf (fieldsOf s.serial.buffer) = .ok i →
       exec (.characterReceived 13#8 false) s =
         exec i { s with serial := { s.serial with buffer := [], spoiled := false, long := false } }) ∧
     (∀ r, orderOf (fieldsOf s.serial.buffer) = .error r →
       (r = .name ∨ r = .form) ∧
       exec (.characterReceived 13#8 false) s =
         .next ({ s with serial := { s.serial with buffer := [], spoiled := false, long := false } }.refuse r))) ∧
  (∀ s : State, s.serial.phase = .quiet →
     let t := { s with serial := { s.serial with buffer := [], spoiled := false, long := false } }
     ∀ c ∈ [Instr.characterReceived 13#8 false, Instr.orderLineRefused],
       (s.serial.spoiled = true → exec c s = .next (t.refuse .line)) ∧
       (s.serial.spoiled = false → s.serial.long = true → exec c s = .next (t.refuse .long)) ∧
       (s.serial.spoiled = false → s.serial.long = false → (∀ x ∈ s.serial.buffer, x = ' ') →
         exec c s = .next (t.refuse .name)))

/-- A line that ends while a reply is due or being sent is held, spoiled where the reply is being sent; once the reply has been
sent the oldest held line is answered NO LINE, NO LONG, NO NAME or NO FORM, or acts as its order on the part as it then stands
(R165, R166, R168). That several lines are held in order, and that a line ended while a reply is sent is held too, are the
model's reading (notes/assumptions/7.md), as is a held RESTART's leaving a line still being received alone
(notes/assumptions/8.md). -/
def Obligations.LinesWaitForTheReply : Prop :=
  ∀ s : State,
    (s.serial.phase ≠ .quiet → exec (.characterReceived 13#8 false) s =
      .next { s with serial := { s.serial with
        buffer := [], spoiled := false, long := false
        held := s.serial.held ++
          [⟨s.serial.buffer, s.serial.spoiled || s.serial.phase == .sending, s.serial.long⟩] } }) ∧
    ∀ l ls, s.serial.held = l :: ls →
      let t := { s with serial := { s.serial with phase := .quiet, held := ls } }
      (l.spoiled = true → exec .heldLineTaken s = .next (t.refuse .line)) ∧
      (l.spoiled = false → l.long = true → exec .heldLineTaken s = .next (t.refuse .long)) ∧
      (l.spoiled = false → l.long = false → (∀ c ∈ l.text, c = ' ') → exec .heldLineTaken s = .next (t.refuse .name)) ∧
      (l.spoiled = false → l.long = false → (∃ c ∈ l.text, c ≠ ' ') →
        (∀ r, orderOf (fieldsOf l.text) = .error r →
          (r = .name ∨ r = .form) ∧ exec .heldLineTaken s = .next (t.refuse r)) ∧
        (∀ i, i ≠ .restart → orderOf (fieldsOf l.text) = .ok i → exec .heldLineTaken s = exec i t) ∧
        (orderOf (fieldsOf l.text) = .ok .restart → ∃ u : State, exec .restart t = .next u ∧
          exec .heldLineTaken s = .next { u with serial := { u.serial with
            buffer := s.serial.buffer, spoiled := s.serial.spoiled, long := s.serial.long } }))

/-! ## SET -/

/-- SET Ln with a numeric setting: RANGE outside its range in the tables of 2.2 and R140, then STATE for the four settings of a
line at rest; a taken value replaces that setting alone and, for RMAX, reduces the rate of an INJECTING line (R19, R140). -/
def Obligations.SetLineChangesOneSetting : Prop :=
  let row : LineNumber → Nat × Nat × (Settings → Nat) := fun
    | .hose => (1000, 200000, Settings.hose)
    | .pulse => (1, 1000, Settings.pulse)
    | .cspan => (1000, 16000, Settings.cspan)
    | .pspan => (1000, 25000, Settings.pspan)
    | .seatp => (500, 20000, Settings.seatp)
    | .gain => (1, 255, Settings.gain)
    | .slew => (1, 100, Settings.slew)
    | .rmax => (10, 1200, Settings.rmax)
    | .crate => (10, 600, Settings.crate)
    | .primet => (10, 900, Settings.primet)
    | .washt => (30, 900, Settings.washt)
    | .shutin => (0, 1800, Settings.shutin)
    | .relp => (0, 500, Settings.relp)
    | .drop => (50, 5000, Settings.drop)
    | .dfloor => (0, 5000, Settings.dfloor)
    | .surge => (50, 5000, Settings.surge)
    | .comm => (50, 2000, Settings.comm)
    | .pmargin => (100, 5000, Settings.pmargin)
  ∀ (n : LineId) (f : LineNumber) (v : Nat) (s : State), s.config = .enable →
    (∀ (m : Nat) c, 8 ≤ m → exec (.setLine m c) s = .next (s.refuse .range)) ∧
    let lo := (row f).1
    let hi := (row f).2.1
    let held := fun (g : LineNumber) (t : Settings) => (row g).2.2 t
    (¬(lo ≤ v ∧ v ≤ hi) → exec (.setLine n (.number f v)) s = .next (s.refuse .range)) ∧
    (lo ≤ v → v ≤ hi →
      ((f = .hose ∨ f = .pulse ∨ f = .cspan ∨ f = .pspan) → (s.line n).state ≠ .dry → (s.line n).state ≠ .fouled →
        exec (.setLine n (.number f v)) s = .next (s.refuse .state)) ∧
      (((f ≠ .hose ∧ f ≠ .pulse ∧ f ≠ .cspan ∧ f ≠ .pspan) ∨ (s.line n).state = .dry ∨ (s.line n).state = .fouled) →
        ∃ t : State, exec (.setLine n (.number f v)) s = .next (t.answer (.ok [])) ∧
          held f (t.line n).settings = v ∧ (∀ g, g ≠ f → held g (t.line n).settings = held g (s.line n).settings) ∧
          (t.line n).settings.checks = (s.line n).settings.checks ∧ (t.line n).settings.holdon = (s.line n).settings.holdon ∧
          (t.line n).fig.pumpRate =
            (if f = .rmax ∧ (s.line n).state = .injecting then min v (s.line n).fig.pumpRate else (s.line n).fig.pumpRate) ∧
          t.line n = { s.line n with
            settings := (t.line n).settings
            fig := { (s.line n).fig with pumpRate := (t.line n).fig.pumpRate } } ∧
          s.OnlyLine t n ∧ t.lineHolds[n] = s.lineHolds[n]))

/-- SET Ln CHECKS and SET Ln HOLDON replace the whole set; a name given twice or one that belongs to neither set is refused with
RANGE; a check that CHECKS no longer contains has its count at 0 and its mark clear (R140). -/
def Obligations.SetLineReplacesASet : Prop :=
  ∀ (n : LineId) (s : State), s.config = .enable →
    (∀ ms : List CheckName, ms.Nodup → ∃ t : State, exec (.setLine n (.checks (some ms))) s = .next (t.answer (.ok [])) ∧
      (t.line n).settings = { (s.line n).settings with
        checks := ⟨decide (.drop ∈ ms), decide (.surge ∈ ms), decide (.overp ∈ ms), decide (.packer ∈ ms), decide (.comm ∈ ms)⟩ } ∧
      (t.line n).latch = { (s.line n).latch with
        dropMark := (s.line n).latch.dropMark && decide (.drop ∈ ms)
        surgeMark := (s.line n).latch.surgeMark && decide (.surge ∈ ms)
        packerCount := if .packer ∈ ms then (s.line n).latch.packerCount else 0
        packerMark := (s.line n).latch.packerMark && decide (.packer ∈ ms)
        commMark := (s.line n).latch.commMark && decide (.comm ∈ ms) } ∧
      t.line n = { s.line n with settings := (t.line n).settings, latch := (t.line n).latch } ∧ s.OnlyLine t n) ∧
    (∀ ms : List HoldOnName, ms.Nodup → ∃ t : State, exec (.setLine n (.holdon (some ms))) s = .next (t.answer (.ok [])) ∧
      t.line n = { s.line n with settings := { (s.line n).settings with
        holdon := ⟨decide (.switch ∈ ms), decide (.step ∈ ms), decide (.rate ∈ ms)⟩ } } ∧ s.OnlyLine t n) ∧
    (∀ ms : List CheckName, ¬ms.Nodup → exec (.setLine n (.checks (some ms))) s = .next (s.refuse .range)) ∧
    (∀ ms : List HoldOnName, ¬ms.Nodup → exec (.setLine n (.holdon (some ms))) s = .next (s.refuse .range)) ∧
    exec (.setLine n (.checks none)) s = .next (s.refuse .range) ∧ exec (.setLine n (.holdon none)) s = .next (s.refuse .range) ∧
    exec (.setLine n .unknown) s = .next (s.refuse .range)

/-- SET A, SET B and SET PLANT of the plant coordinator: CAP above LOW and not below the level, LOW below CAP, the plant settings
within their ranges; a taken order is followed by a settling (R93). SET PLANT METHOD, CIRCI and CIRCD (R121, R161). That CAP
is judged for RANGE before STATE, and that METHOD, CIRCI and CIRCD are followed by no settling, are the model's reading
(notes/assumptions/17.md, notes/assumptions/18.md). -/
def Obligations.SetPlantChangesOneSetting : Prop :=
  (∀ (a : AgitatorId) (v : Nat) (s : State), s.config = .enable →
     (¬(100 ≤ v ∧ v ≤ 3000 ∧ (s.tank a).low < v) →
       exec (.setAgitatorPlant (.agitator a (some .cap) v)) s = .next (s.refuse .range)) ∧
     (100 ≤ v → v ≤ 3000 → (s.tank a).low < v → v * 1000 < (s.tank a).level →
       exec (.setAgitatorPlant (.agitator a (some .cap) v)) s = .next (s.refuse .state)) ∧
     (100 ≤ v → v ≤ 3000 → (s.tank a).low < v → (s.tank a).level ≤ v * 1000 →
       exec (.setAgitatorPlant (.agitator a (some .cap) v)) s =
         .next ((s.setTank a { s.tank a with cap := v }).settle.answer (.ok []))) ∧
     (¬(v ≤ 2999 ∧ v < (s.tank a).cap) →
       exec (.setAgitatorPlant (.agitator a (some .low) v)) s = .next (s.refuse .range)) ∧
     (v ≤ 2999 → v < (s.tank a).cap → exec (.setAgitatorPlant (.agitator a (some .low) v)) s =
       .next ((s.setTank a { s.tank a with low := v }).settle.answer (.ok []))) ∧
     exec (.setAgitatorPlant (.agitator a none v)) s = .next (s.refuse .range) ∧
     exec (.setAgitatorPlant (.plant none v)) s = .next (s.refuse .range) ∧
     (¬(10 ≤ v ∧ v ≤ 600) → exec (.setAgitatorPlant (.plant (some .dumpt) v)) s = .next (s.refuse .range)) ∧
     (¬(30 ≤ v ∧ v ≤ 900) → exec (.setAgitatorPlant (.plant (some .batcht) v)) s = .next (s.refuse .range)) ∧
     (¬(50 ≤ v ∧ v ≤ 1000) → exec (.setAgitatorPlant (.plant (some .batchv) v)) s = .next (s.refuse .range)) ∧
     (300 < v → exec (.setAgitatorPlant (.plant (some .stagger) v)) s = .next (s.refuse .range)) ∧
     (10 ≤ v → v ≤ 600 → exec (.setAgitatorPlant (.plant (some .dumpt) v)) s =
       .next ({ s with plant := { s.plant with dumpt := v } }.settle.answer (.ok []))) ∧
     (30 ≤ v → v ≤ 900 → exec (.setAgitatorPlant (.plant (some .batcht) v)) s =
       .next ({ s with plant := { s.plant with batcht := v } }.settle.answer (.ok []))) ∧
     (50 ≤ v → v ≤ 1000 → exec (.setAgitatorPlant (.plant (some .batchv) v)) s =
       .next ({ s with plant := { s.plant with batchv := v } }.settle.answer (.ok []))) ∧
     (v ≤ 300 → exec (.setAgitatorPlant (.plant (some .stagger) v)) s =
       .next ({ s with plant := { s.plant with stagger := v } }.settle.answer (.ok [])))) ∧
  (∀ (m : Method) (v : Nat) (s : State), s.config = .enable →
     exec (.setPlantMethod (some m)) s = .next ({ s with plant := { s.plant with method := m } }.answer (.ok [])) ∧
     exec (.setPlantMethod none) s = .next (s.refuse .range) ∧
     (60 ≤ v → v ≤ 1800 → exec (.setPlantCirc .circi v) s =
       .next ({ s with plant := { s.plant with circi := v } }.answer (.ok []))) ∧
     (¬(60 ≤ v ∧ v ≤ 1800) → exec (.setPlantCirc .circi v) s = .next (s.refuse .range)) ∧
     (10 ≤ v → v ≤ 300 → exec (.setPlantCirc .circd v) s =
       .next ({ s with plant := { s.plant with circd := v } }.answer (.ok []))) ∧
     (¬(10 ≤ v ∧ v ≤ 300) → exec (.setPlantCirc .circd v) s = .next (s.refuse .range)))

/-- SET Gg: ON and SPAN are closed while the gauge is watched or about to be; WARN, ALARM and HYST are judged against one
another (R129). That SPAN is judged for RANGE before BUSY is the model's reading (notes/assumptions/17.md). -/
def Obligations.SetGaugeChangesOneSetting : Prop :=
  ∀ (g : GaugeId) (v : Nat) (s : State),
    (∀ (h : Nat) f, s.config = .run → exec (.setGauge h f v) s = .next (s.refuse .key)) ∧
    (∀ (h : Nat) f, s.config = .enable → 12 ≤ h → exec (.setGauge h f v) s = .next (s.refuse .range)) ∧
    (s.config = .enable → exec (.setGauge g none v) s = .next (s.refuse .range)) ∧ (s.config = .enable →
    let q := s.gauge g
    let closed := (∃ n, g ∈ (s.line n).watched) ∨
      ∃ n r, (s.line n).state = .seating ∧ s.boundRecord (s.line n) = some r ∧ g ∈ r.gauges
    let taken := fun q' => State.answer { s with gauges := s.gauges.set g q' } (.ok [])
    (q.state = .off → exec (.setGauge g (some .on) 1) s =
      .next (taken { q with state := .idle, heave := 0, baseline := 0, maximum := 0, faults := 0, goods := 0 })) ∧
    (q.state ≠ .off → exec (.setGauge g (some .on) 1) s = .next (taken q)) ∧
    (1 < v → exec (.setGauge g (some .on) v) s = .next (s.refuse .range)) ∧
    (closed → exec (.setGauge g (some .on) 0) s = .next (s.refuse .busy)) ∧
    (¬closed → exec (.setGauge g (some .on) 0) s = .next (taken { q with state := .off })) ∧
    (¬(500 ≤ v ∧ v ≤ 9999) → exec (.setGauge g (some .span) v) s = .next (s.refuse .range)) ∧
    (500 ≤ v → v ≤ 9999 → closed → exec (.setGauge g (some .span) v) s = .next (s.refuse .busy)) ∧
    (500 ≤ v → v ≤ 9999 → ¬closed → exec (.setGauge g (some .span) v) s = .next (taken { q with span := v })) ∧
    (10 ≤ v → v ≤ 5000 → q.hyst < v → v < q.alarm → exec (.setGauge g (some .warn) v) s = .next (taken { q with warn := v })) ∧
    (¬(10 ≤ v ∧ v ≤ 5000) ∨ v ≤ q.hyst ∨ q.alarm ≤ v → exec (.setGauge g (some .warn) v) s = .next (s.refuse .range)) ∧
    (11 ≤ v → v ≤ 9999 → q.warn < v → exec (.setGauge g (some .alarm) v) s = .next (taken { q with alarm := v })) ∧
    (¬(11 ≤ v ∧ v ≤ 9999) ∨ v ≤ q.warn → exec (.setGauge g (some .alarm) v) s = .next (s.refuse .range)) ∧
    (1 ≤ v → v ≤ 4999 → v < q.warn → exec (.setGauge g (some .hyst) v) s = .next (taken { q with hyst := v })) ∧
    (¬(1 ≤ v ∧ v ≤ 4999) ∨ q.warn ≤ v → exec (.setGauge g (some .hyst) v) s = .next (s.refuse .range)))

/-! ## The tables -/

/-- MIXDEF and DROPMIX in the order of their checks, and the read form, with what makes a mix in use (R89, R90, R91). -/
def Obligations.MixTableOrders : Prop :=
  ∀ (k : Nat) (m : Mix) (s : State),
    (s.config = .run → exec (.mixdef k m) s = .next (s.refuse .key) ∧ exec (.dropmix k) s = .next (s.refuse .key) ∧
      exec (.mixdefRead k) s = .next (s.refuse .key)) ∧ (s.config = .enable →
    let inRange := 1 ≤ k ∧ k ≤ 6
    let tag := 1 ≤ m.tag.length ∧ m.tag.length ≤ 8 ∧ ∀ c ∈ m.tag, ('A' ≤ c ∧ c ≤ 'Z') ∨ ('0' ≤ c ∧ c ≤ '9')
    let inUse := (∃ n, (s.line n).columnMix = some k ∨ (s.line n).drawMix = some k ∨ (s.line n).pendingMix = some k) ∨
      (∃ a, (s.tank a).mix = some k) ∨ (∃ r ∈ s.batchQueue, r.mix = k) ∨
      ∃ a r, (s.mixer = .waiting a r ∨ s.mixer = .mixing a r) ∧ r.mix = k
    let fields := tag ∧ 50 ≤ m.wc ∧ m.wc ≤ 600 ∧ 1000 ≤ m.density ∧ m.density ≤ 2300 ∧
      m.friction ≤ 500 ∧ 10 ≤ m.settime ∧ m.settime ≤ 240
    let ordered := ∀ j a, s.mixEntry j = some a → (j < k → a.density < m.density) ∧ (k < j → m.density < a.density)
    (¬(inRange ∧ fields) → exec (.mixdef k m) s = .next (s.refuse .range)) ∧
    (inRange → fields → inUse → exec (.mixdef k m) s = .next (s.refuse .busy)) ∧
    (inRange → fields → ¬inUse → ¬ordered → exec (.mixdef k m) s = .next (s.refuse .order)) ∧
    (inRange → fields → ¬inUse → ordered → ∃ t : State, exec (.mixdef k m) s = .next (t.answer (.ok [])) ∧
      t.mixEntry k = some m ∧ (∀ j, j ≠ k → t.mixEntry j = s.mixEntry j) ∧ t = { s with mixes := t.mixes }) ∧
    (¬inRange → exec (.dropmix k) s = .next (s.refuse .range)) ∧
    (inRange → inUse → exec (.dropmix k) s = .next (s.refuse .busy)) ∧
    (inRange → ¬inUse → s.mixEntry k = none → exec (.dropmix k) s = .next (s.refuse .absent)) ∧
    (inRange → ¬inUse → s.mixEntry k ≠ none → ∃ t : State, exec (.dropmix k) s = .next (t.answer (.ok [])) ∧
      t.mixEntry k = none ∧ (∀ j, j ≠ k → t.mixEntry j = s.mixEntry j) ∧ t = { s with mixes := t.mixes }) ∧
    (¬inRange → exec (.mixdefRead k) s = .next (s.refuse .range)) ∧
    (inRange → s.mixEntry k = none → exec (.mixdefRead k) s = .next (s.refuse .absent)) ∧
    (∀ e used, inRange → s.mixEntry k = some e → (used = true ↔ inUse) → exec (.mixdefRead k) s = .next (s.answer (.ok
      [.num k, .word e.tag, .num e.wc, .num e.density, .num e.friction, .num e.settime, .flag used]))))

/-- ENVDEF: RANGE for an index or a field out of its range, BUSY while a line holds the envelope, else all eight fields replaced
together (R84). PROFILE: RANGE, BUSY while a line holds the window, else the window is defined and no point changes (R80).
POINT: RANGE, BUSY while the point lies in the range of a window that a line holds, else both fields are replaced and no line
changes (R78, R79). -/
def Obligations.TableEntriesAreReplaced : Prop :=
  (∀ (e : Nat) (r : Envelope) (s : State), (s.config = .run → exec (.envdef e r) s = .next (s.refuse .key)) ∧ (s.config = .enable →
     let fields := (100 ≤ r.pmax ∧ r.pmax ≤ 10000) ∧ (1 ≤ r.vmax ∧ r.vmax ≤ 1000) ∧ (10 ≤ r.ginmax ∧ r.ginmax ≤ 5000) ∧
       r.rflow ≤ 200 ∧ (10 ≤ r.rtime ∧ r.rtime ≤ 3600) ∧ r.band ≤ 1000 ∧ (1 ≤ r.tvol ∧ r.tvol ≤ 500) ∧
       (10 ≤ r.tpct ∧ r.tpct ≤ 95)
     (¬(e < 4 ∧ fields) → exec (.envdef e r) s = .next (s.refuse .range)) ∧
     ∀ i : EnvelopeId, i.val = e → fields →
       ((∃ n, (s.line n).envelope = some i) → exec (.envdef e r) s = .next (s.refuse .busy)) ∧
       ((∀ n, (s.line n).envelope ≠ some i) →
         exec (.envdef e r) s = .next ({ s with envelopes := s.envelopes.set i (some r) }.answer (.ok []))))) ∧
  (∀ (w base count : Nat) (s : State), (s.config = .run → exec (.profile w base count) s = .next (s.refuse .key)) ∧
   (s.config = .enable →
     let fields := base ≤ 255 ∧ 1 ≤ count ∧ count ≤ 32 ∧ base + count ≤ 256
     (¬(w < 16 ∧ fields) → exec (.profile w base count) s = .next (s.refuse .range)) ∧
     ∀ i : WindowId, i.val = w → fields →
       ((∃ n, (s.line n).window = some i) → exec (.profile w base count) s = .next (s.refuse .busy)) ∧
       ((∀ n, (s.line n).window ≠ some i) → exec (.profile w base count) s =
         .next ({ s with windows := s.windows.set i (some ⟨base, count⟩) }.answer (.ok []))))) ∧
  (∀ (i target dwell : Nat) (s : State), (s.config = .run → exec (.point i target dwell) s = .next (s.refuse .key)) ∧
   (s.config = .enable →
     let fields := target ≤ 10000 ∧ dwell ≤ 3600
     let inUse := ∃ n w d, (s.line n).window = some w ∧ s.windows[w] = some d ∧ d.base ≤ i ∧ i < d.base + d.count
     (¬(i < 256 ∧ fields) → exec (.point i target dwell) s = .next (s.refuse .range)) ∧
     ∀ p : PointId, p.val = i → fields →
       (inUse → exec (.point i target dwell) s = .next (s.refuse .busy)) ∧
       (¬inUse → exec (.point i target dwell) s =
         .next ({ s with points := s.points.set p ⟨target, dwell⟩ }.answer (.ok [])))))

/-- The read forms answer with the index, the fields held and the in-use mark or the holders, and change nothing; an undefined
entry is answered NO ABSENT, and an index out of its range NO RANGE (R81, R86, R148, R168, R170). SET's read form answers with
the scope, the field and the value (R170). That each holder is a field of its own is the model's reading
(notes/assumptions/20.md), and that CHECKS and HOLDON are written in the order of R140's table is its choice
(notes/assumptions/32.md). -/
def Obligations.ReadFormsChangeNothing : Prop :=
  ∀ s : State, s.config = .enable →
    (∀ (e : EnvelopeId) (r : Envelope), s.envelopes[e] = some r → exec (.envdefRead e) s = .next (s.answer (.ok
      ([.num (e.val : Nat), .num r.pmax, .num r.vmax, .num r.ginmax, .num r.rflow, .num r.rtime, .num r.band, .num r.tvol,
        .num r.tpct] ++ (s.envelopeHolders e).map fun n => .num (n.val : Nat))))) ∧
    (∀ e : EnvelopeId, s.envelopes[e] = none → exec (.envdefRead e) s = .next (s.refuse .absent)) ∧
    (∀ e : Nat, 4 ≤ e → exec (.envdefRead e) s = .next (s.refuse .range)) ∧
    (∀ (w : WindowId) (d : Window), s.windows[w] = some d → exec (.profileRead w) s = .next (s.answer (.ok
      ([.num (w.val : Nat), .num d.base, .num d.count] ++ (s.windowHolders w).map fun n => .num (n.val : Nat))))) ∧
    (∀ w : WindowId, s.windows[w] = none → exec (.profileRead w) s = .next (s.refuse .absent)) ∧
    (∀ w : Nat, 16 ≤ w → exec (.profileRead w) s = .next (s.refuse .range)) ∧
    (∀ i : PointId, exec (.pointRead i) s = .next (s.answer (.ok
      [.num (i.val : Nat), .num s.points[i].target, .num s.points[i].dwell, .flag (s.pointInUse i)]))) ∧
    (∀ i : Nat, 256 ≤ i → exec (.pointRead i) s = .next (s.refuse .range)) ∧
    (∀ k : DetectionKind, exec (.responseRead (some k)) s = .next (s.answer (.ok
      [wordField (detectionName k), wordField (actionName (s.responses.get k))]))) ∧
    exec (.responseRead none) s = .next (s.refuse .range) ∧
    (let shown := fun (w : SettingName) (scope : Text) (field : String) (value : Field) =>
       exec (.setRead (some w)) s = .next (s.answer (.ok [.word scope, wordField field, value]))
     let members := fun names : List (String × Bool) =>
       let held := (names.filter (·.2)).map (·.1.toList)
       Field.word (if held = [] then "NONE".toList else [','].intercalate held)
     let scopeL := fun n : LineId => 'L' :: Nat.toDigits 10 n.val
     let scopeG := fun g : GaugeId => 'G' :: Nat.toDigits 10 g.val
     let scopeT := fun a : AgitatorId => match a with
       | .tankA => ['A']
       | .tankB => ['B']
     let plant := "PLANT".toList
     let numbers : LineNumber → String × (Settings → Nat) := fun
       | .hose => ("HOSE", Settings.hose)
       | .pulse => ("PULSE", Settings.pulse)
       | .cspan => ("CSPAN", Settings.cspan)
       | .pspan => ("PSPAN", Settings.pspan)
       | .seatp => ("SEATP", Settings.seatp)
       | .gain => ("GAIN", Settings.gain)
       | .slew => ("SLEW", Settings.slew)
       | .rmax => ("RMAX", Settings.rmax)
       | .crate => ("CRATE", Settings.crate)
       | .primet => ("PRIMET", Settings.primet)
       | .washt => ("WASHT", Settings.washt)
       | .shutin => ("SHUTIN", Settings.shutin)
       | .relp => ("RELP", Settings.relp)
       | .drop => ("DROP", Settings.drop)
       | .dfloor => ("DFLOOR", Settings.dfloor)
       | .surge => ("SURGE", Settings.surge)
       | .comm => ("COMM", Settings.comm)
       | .pmargin => ("PMARGIN", Settings.pmargin)
     (∀ n f, shown (.line n (.number f)) (scopeL n) (numbers f).1 (.num ((numbers f).2 (s.line n).settings : Nat))) ∧
     (∀ n, let c := (s.line n).settings.checks
       shown (.line n .checks) (scopeL n) "CHECKS"
         (members [("DROP", c.drop), ("SURGE", c.surge), ("OVER", c.overp), ("PACKER", c.packer), ("COMM", c.comm)])) ∧
     (∀ n, let h := (s.line n).settings.holdon
       shown (.line n .holdon) (scopeL n) "HOLDON" (members [("SWITCH", h.switch), ("STEP", h.step), ("RATE", h.rate)])) ∧
     (∀ a, shown (.agitator a .cap) (scopeT a) "CAP" (.num (s.tank a).cap)) ∧
     (∀ a, shown (.agitator a .low) (scopeT a) "LOW" (.num (s.tank a).low)) ∧
     shown (.plant .dumpt) plant "DUMPT" (.num s.plant.dumpt) ∧ shown (.plant .batcht) plant "BATCHT" (.num s.plant.batcht) ∧
     shown (.plant .batchv) plant "BATCHV" (.num s.plant.batchv) ∧
     shown (.plant .stagger) plant "STAGGER" (.num s.plant.stagger) ∧
     shown (.circ .circi) plant "CIRCI" (.num s.plant.circi) ∧ shown (.circ .circd) plant "CIRCD" (.num s.plant.circd) ∧
     shown .method plant "METHOD" (wordField (if s.plant.method = .down then "DOWN" else "UP")) ∧
     ∀ g, let q := s.gauge g
       shown (.gauge g .on) (scopeG g) "ON" (.num (if q.state = .off then 0 else 1 : Nat)) ∧
       shown (.gauge g .span) (scopeG g) "SPAN" (.num q.span) ∧ shown (.gauge g .warn) (scopeG g) "WARN" (.num q.warn) ∧
       shown (.gauge g .alarm) (scopeG g) "ALARM" (.num q.alarm) ∧ shown (.gauge g .hyst) (scopeG g) "HYST" (.num q.hyst)) ∧
    exec (.setRead none) s = .next (s.refuse .range)

/-- RESPONSE: RANGE for a kind or action that does not exist and for REPORT on SENSOR; else the action for that kind alone is
replaced (R148). -/
def Obligations.ResponseReplacesAnAction : Prop :=
  ∀ (k : DetectionKind) (a : Action) (s : State), s.config = .enable →
    (∀ x, exec (.response none x) s = .next (s.refuse .range)) ∧ exec (.response (some k) none) s = .next (s.refuse .range) ∧
    exec (.response (some .sensor) (some .report)) s = .next (s.refuse .range) ∧
    (¬(k = .sensor ∧ a = .report) → ∃ t : State, exec (.response (some k) (some a)) s = .next (t.answer (.ok [])) ∧
      t.responses.get k = a ∧ (∀ j, j ≠ k → t.responses.get j = s.responses.get j) ∧
      t = { s with responses := t.responses })

/-- RESTART: STATE unless every line is DRY or FOULED; else the tables, queues, holds, book and map are as at power-on, every
pending slot and the response unit's items are cleared, and the rest of each line, the clock, the loop, the keys and the
held lines are kept (R177). -/
def Obligations.RestartEmptiesTheTables : Prop :=
  ∀ s : State, s.config = .enable →
    ((∃ n, (s.line n).state ≠ .dry ∧ (s.line n).state ≠ .fouled) → exec .restart s = .next (s.refuse .state)) ∧
    ((∀ n, (s.line n).state = .dry ∨ (s.line n).state = .fouled) → ∃ t : State, exec .restart s = .next (t.answer (.ok [])) ∧
      (∀ n, t.line n =
        { s.line n with pendingResult := none, latch := ⟨none, 0, 0, false, false, 0, false, false⟩ }) ∧
      t.book = [] ∧ t.holes = [] ∧ t.results = [] ∧ t.batchQueue = [] ∧ t.mixer = .idle ∧ t.phaseTimer = 0 ∧
      (∀ n : LineId, t.lineHolds[n] = ⟨[], false⟩) ∧ t.plantHold = ⟨[], false⟩ ∧
      (∀ k, t.mixEntry k = none) ∧ (∀ e : EnvelopeId, t.envelopes[e] = none) ∧ (∀ d : WindowId, t.windows[d] = none) ∧
      (∀ i : PointId, t.points[i] = ⟨0, 0⟩) ∧ (∀ a, t.tank a = ⟨.empty, none, 0, 1000, 200, [], 300⟩) ∧
      t.plant = ⟨60, 180, 250, 20, 300, 30, .down⟩ ∧ t.responses = ⟨.pause, .report, .report, .pause, .report, .pause⟩ ∧
      (∀ g, t.gauge g = ⟨.off, 5000, 100, 200, 20, 0, 0, 0, 0, 0⟩) ∧
      t.serial = { s.serial with buffer := [], spoiled := false, long := false } ∧
      t.clock = s.clock ∧ t.loop = s.loop ∧ t.config = s.config ∧ t.pending = s.pending)

/-! ## The order line's own reads -/

/-- STATUS answers with the ten fields of R171 and changes nothing. LINE n answers with the 61 fields of R172 in its order and
changes nothing; its Pc is that of the line's last sample, worked out with the tare offset then in force, which is the model's
reading (notes/assumptions/21.md). CLOCK reads or sets the part clock alone; a value above 4,294,967,295 is refused with RANGE
(R176). -/
def Obligations.StatusLineAndClockAnswer : Prop :=
  (∀ s : State, exec .status s = .next (s.answer (.ok
     [.num (s.clock.toNat : Nat),
       .word ([0, 1, 2, 3, 4, 5, 6, 7].map fun n : LineId => stateLetter (s.line n).state),
       .word (([0, 1, 2, 3, 4, 5, 6, 7].map fun n : LineId => s.lineHolds[n]).map (fun h =>
         if h.overflow = true then '2' else if h.entries = [] then '0' else '1') ++
         [if s.plantHold.overflow = true then '2' else if s.plantHold.entries = [] then '0' else '1']),
       wordField (if s.loop = .opened then "OPEN" else "CLOSED"),
       wordField (if s.config = .run then "RUN" else "ENABLE"),
       .word ([0, 1, 2, 3, 4, 5, 6, 7].map fun n : LineId => if (s.line n).key = .remote then 'R' else 'L'),
       wordField (mixerName s.mixer), wordField (tankStateName (s.tank .tankA).state),
       wordField (tankStateName (s.tank .tankB).state), .num (s.results.length : Nat)]))) ∧
  (∀ (n : LineId) (s : State),
     let l := s.line n
     let num := fun k : Nat => Field.num k
     exec (.line n) s = .next (s.answer (.ok
       [num n, wordField (stateName l.state), optField (fun c => wordField (causeName c)) l.pauseCause, wordField (keyName l.key),
         optField (fun b => .word b) (l.bound.map (·.hole)), optField num (l.bound.map (·.stage)), .flag l.regrout,
         optField num (l.startClock.map (·.toNat)), optField (fun r => wordField (endReasonName r)) l.endReason,
         .nums (l.watched.map (·.val)), num l.seatRef,
         optField (fun t => wordField (tankName t)) l.draw, optField num l.columnMix, optField num l.drawMix,
         optField num l.pendingMix, num l.front,
         optField num (l.envelope.map (·.val)), optField num (l.window.map (·.val)), .flag l.releaseFlag,
         num l.fig.volume, num l.fig.mixVolume, num l.fig.pointIndex, num (l.fig.dwellCount / 10), num (l.fig.refusalCount / 10),
         num l.fig.pumpRate, optField num l.fig.warnCap,
         num l.fig.lastPe, num l.fig.lastAllowed, num l.fig.lastTarget, num l.fig.lastIntensity, num l.fig.lastTake,
         num l.fig.maxPe, .flag l.fig.tripMark,
         num (l.stateTicks / 10), num l.condCount, .flag l.slowMark,
         optField num (l.circ.age.map (· / 10)), .flag l.circ.running, num l.circ.runCount, .flag l.circ.blocked,
         .flag l.inputs.tare.isSome, optField num (l.inputs.tare.map (·.samples)),
         num (l.inputs.collar.value - l.inputs.pcOffset), num l.inputs.collar.value, num l.inputs.packer.value,
         num l.inputs.flow, num l.inputs.strokes, .flag l.inputs.collar.degraded, .flag l.inputs.packer.degraded,
         num l.pauses, num l.mixChanges, .flag l.pendingResult.isSome, optField num l.heaveMax,
         optField num l.latch.reference, num l.latch.period, num l.latch.holdOff, num l.latch.packerCount,
         .flag l.latch.dropMark, .flag l.latch.surgeMark, .flag l.latch.packerMark, .flag l.latch.commMark]))) ∧
  (∀ (v : Nat) (s : State),
     exec (.clock none) s = .next (s.answer (.ok [.num (s.clock.toNat : Nat)])) ∧
     (v ≤ 4294967295 → ∃ c : Clock, c.toNat = v ∧
       exec (.clock (some v)) s = .next ({ s with clock := c }.answer (.ok [.num v]))) ∧
     (4294967295 < v → exec (.clock (some v)) s = .next (s.refuse .range)))

/-- An event joins a hold with room as its newest entry, and sets the overflow mark of a full one, 2 entries for a line and 4
for the plant (R173). POLL answers with the hold's name, the number of entries, the overflow mark and five fields for each
entry, oldest first, and empties the hold and clears its mark, no other (R174). -/
def Obligations.HoldsArePlacedAndPolled : Prop :=
  let eventFields : Event → List Field := fun e => [wordField (eventName e.kind), .num (e.clock.toNat : Nat),
    optField subjectField e.subject, optField valueField e.value, optField valueField e.second]
  let holdFields : Field → Hold → List Field := fun name h =>
    name :: .num (h.entries.length : Nat) :: .flag h.overflow :: h.entries.flatMap eventFields
  ∀ s : State,
    (∀ n : LineId, exec (.poll (some (.line n))) s =
      .next ({ s with lineHolds := s.lineHolds.set n ⟨[], false⟩ }.answer
        (.ok (holdFields (.num (n.val : Nat)) s.lineHolds[n])))) ∧
    exec (.poll (some .plant)) s =
      .next ({ s with plantHold := ⟨[], false⟩ }.answer (.ok (holdFields (wordField "P") s.plantHold))) ∧
    exec (.poll none) s = .next (s.refuse .range) ∧
    (∀ (n : LineId) (k : EventKind) (v w : Option EventValue),
      let h := s.lineHolds[n]
      ∃ u : State, s.lineEvent n k v w = u ∧ u = { s with lineHolds := u.lineHolds } ∧
        (∀ m : LineId, m ≠ n → u.lineHolds[m] = s.lineHolds[m]) ∧
        (h.entries.length < 2 → u.lineHolds[n] = ⟨h.entries ++ [⟨k, s.clock, some (.line n), v, w⟩], h.overflow⟩) ∧
        (2 ≤ h.entries.length → u.lineHolds[n] = ⟨h.entries, true⟩)) ∧
    (∀ (k : EventKind) (j : Option Subject) (v w : Option EventValue),
      let h := s.plantHold
      (h.entries.length < 4 → s.plantEvent k j v w =
        { s with plantHold := ⟨h.entries ++ [⟨k, s.clock, j, v, w⟩], h.overflow⟩ }) ∧
      (4 ≤ h.entries.length → s.plantEvent k j v w = { s with plantHold := ⟨h.entries, true⟩ }))

/-! ## Line orders -/

/-- The checks of a line order: RANGE for a field outside its numbering or set (R168), then R22's in their order: LOCKED but for TARE and MIX, STOPPED for the five orders that move grout, STATE where the
table does not mark the order as taken. SEAT, MIX and TARE against R22's table: SEAT is never STOPPED, MIX and TARE neither
LOCKED nor STOPPED. -/
def Obligations.LineOrdersAreCheckedInOrder : Prop :=
  (∀ (n e w m k : Nat) (a : Option AgitatorId) (hole : Tag) (o : OptWord) (s : State), 8 ≤ n →
     ∀ c ∈ [Instr.line n, .prime n a, .seat n hole k o, .inject n e w m o, .cancel n, .pause n, .resume n, .endStage n,
       .abort n, .release n o, .mix n k, .circulate n, .wash n, .tare n], exec c s = .next (s.refuse .range)) ∧
  (∀ (n : LineId) (e w m k : Nat) (hole : Tag) (o : OptWord) (s : State),
     exec (.prime n none) s = .next (s.refuse .range) ∧ exec (.seat n hole k .other) s = .next (s.refuse .range) ∧
     exec (.inject n e w m .other) s = .next (s.refuse .range) ∧ exec (.release n .other) s = .next (s.refuse .range) ∧
     (¬(e < 4 ∧ w < 16 ∧ 1 ≤ m ∧ m ≤ 6) → exec (.inject n e w m o) s = .next (s.refuse .range))) ∧
  (∀ (n : LineId) (s : State) (a : AgitatorId) (e : EnvelopeId) (w : WindowId) (m : Nat) (release force : Bool),
     1 ≤ m → m ≤ 6 →
     let inject := Instr.inject n e w m (if release then .given else .absent)
     let rel := Instr.release n (if force then .given else .absent)
     let st := (s.line n).state
     let table : List (Instr × Bool × Bool) :=
       [(.prime n (some a), true, st == .dry), (inject, true, st == .seated), (.resume n, true, st == .paused),
         (.circulate n, true, st == .primed || st == .seated || st == .armed || st == .paused),
         (.wash n, true, st == .primed || st == .fouled),
         (.cancel n, false, st == .armed), (.pause n, false, st == .injecting),
         (.endStage n, false, st == .injecting || (st == .paused && (s.line n).startClock.isSome)),
         (.abort n, false, st == .seating || (st == .seated && (s.line n).bound.isSome) || st == .armed || st == .injecting ||
           st == .paused),
         (rel, false, st == .seated || (st == .decaying && force))]
     ∀ row ∈ table,
       ((s.line n).key = .locl → exec row.1 s = .next (s.refuse .locked)) ∧
       ((s.line n).key = .remote → row.2.1 = true → s.loop = .opened → exec row.1 s = .next (s.refuse .stopped)) ∧
       ((s.line n).key = .remote → (row.2.1 = true → s.loop = .closed) → row.2.2 = false →
         exec row.1 s = .next (s.refuse .state))) ∧
  (∀ (n : LineId) (s : State) (hole : Tag) (k m : Nat) (regrout : Bool),
     holeTagOk hole = true → 1 ≤ k → k ≤ 20 → 1 ≤ m → m ≤ 6 →
     let seat := Instr.seat n hole k (if regrout then .given else .absent)
     let st := (s.line n).state
     ((s.line n).key = .locl → exec seat s = .next (s.refuse .locked)) ∧
     ((s.line n).key = .remote → st ≠ .primed → exec seat s = .next (s.refuse .state)) ∧
     (st ≠ .armed → st ≠ .injecting → st ≠ .paused → exec (.mix n m) s = .next (s.refuse .state)) ∧
     (st ≠ .dry → st ≠ .primed → exec (.tare n) s = .next (s.refuse .state)))

/-- PRIME past R22's checks: BUSY, STATE, EMPTY and LOW in that order (R23). PRIME taken: PRIMING is entered on agitator a with
HOSE reserved from its level; where that leaves the level at 0 the priming pump is stopped and the other drawers are paused
(R23, R95, R96; that an INJECTING one reports no volume before its pause is the model's choice, notes/assumptions/35.md). What
follows is the settling of the plant. An order uses the settings as they stand when it is taken, which is the model's choice
(notes/assumptions/33.md). -/
def Obligations.PrimeFillsTheHose : Prop :=
  (∀ (n : LineId) (a : AgitatorId) (s : State),
     (s.line n).key = .remote → s.loop = .closed → (s.line n).state = .dry →
     let k := s.tank a
     ((s.line n).inputs.tare ≠ none → exec (.prime n (some a)) s = .next (s.refuse .busy)) ∧
     ((s.line n).inputs.tare = none →
       (k.state = .dumping ∨ k.state = .receivingChange → exec (.prime n (some a)) s = .next (s.refuse .state)) ∧
       (k.state = .empty → exec (.prime n (some a)) s = .next (s.refuse .empty)) ∧
       (k.state = .ready ∨ k.state = .receivingTopup → k.level < (s.line n).settings.hose →
         exec (.prime n (some a)) s = .next (s.refuse .low)))) ∧
  (∀ (n : LineId) (a : AgitatorId) (s : State),
      (s.line n).key = .remote → s.loop = .closed → (s.line n).state = .dry → (s.line n).inputs.tare = none →
      ((s.tank a).state = .ready ∨ (s.tank a).state = .receivingTopup) → (s.line n).settings.hose ≤ (s.tank a).level →
      ∃ u : State, exec (.prime n (some a)) s = .next (u.settle.answer (.ok [])) ∧
        (u.line n).state = .priming ∧ (u.line n).draw = some a ∧ (u.line n).stateTicks = 0 ∧
        (u.line n).valves = ⟨false, true, false, false, true, false⟩ ∧
        u.tank a = { s.tank a with level := (s.tank a).level - (s.line n).settings.hose, startQueue := (u.tank a).startQueue } ∧
        ((s.line n).settings.hose < (s.tank a).level →
          (u.tank a).startQueue = (s.tank a).startQueue ∧ (u.line n).fig.pumpRate = (s.line n).settings.crate ∧
          (∀ m, m ≠ n → u.line m = s.line m) ∧ u = { s with lines := u.lines, tankA := u.tankA, tankB := u.tankB }) ∧
        ((s.line n).settings.hose = (s.tank a).level → (u.line n).fig.pumpRate = 0 ∧
          (∀ m, m ≠ n → (s.line m).draw = some a → ((s.line m).state = .injecting ∨ (s.line m).state = .armed) →
            (u.line m).state = .paused ∧ (u.line m).pauseCause = some .starved) ∧
          (0 < (s.line n).settings.hose → u.plantHold = s.plantHold.place 4 ⟨.agitatorEmpty, s.clock, some (.tank a),
            (s.tank a).mix.map fun k => .num k, some (.lines (u.drawers a))⟩)) ∧
        (∀ b, b ≠ a → u.tank b = { s.tank b with startQueue := (u.tank b).startQueue }))

/-- The stage order rule (R123). -/
def Obligations.StageOrderRuleOfTheMethod : Prop :=
  ∀ (s : State) (hole : Tag) (k : Nat),
    (s.plant.method = .down →
      (s.stageOrderHolds hole k = true ↔ ∀ j, 1 ≤ j → j < k → s.mark hole j = true)) ∧
    (s.plant.method = .up →
      (s.stageOrderHolds hole k = true ↔ ∀ r ∈ s.book, r.hole = hole → k < r.stage → r.status = .done))

/-- SEAT: the stage book's checks in their order (R122, R124). SEAT taken: the record becomes SEATED-ON n, its regrout count
raised under REGROUT, and the line is bound to it in SEATING (R25, R122). The plant settles where a circulation run ends with
it, and else not (R114, R158; the model's reading of R114's list, notes/assumptions/18.md). -/
def Obligations.SeatChecksTheBookAndBinds : Prop :=
  (∀ (n : Nat) (hole : Tag) (k : Nat) (s : State), ¬(n < 8 ∧ holeTagOk hole = true ∧ 1 ≤ k ∧ k ≤ 20) →
     ∀ o, exec (.seat n hole k o) s = .next (s.refuse .range)) ∧
  (∀ (n : LineId) (hole : Tag) (k : Nat) (regrout : Bool) (s : State),
     holeTagOk hole = true → 1 ≤ k → k ≤ 20 → (s.line n).key = .remote → (s.line n).state = .primed →
     let seat := Instr.seat n hole k (if regrout then .given else .absent)
     let otherSeated := ∃ r ∈ s.book, r.hole = hole ∧ r.stage ≠ k ∧ ∃ m, r.status = .seatedOn m
     let barred := fun r : StageRecord => ∃ g ∈ r.gauges,
       (s.gauge g).state = .off ∨ (s.gauge g).state = .alarm ∨ (s.gauge g).state = .fault
     ((s.line n).inputs.tare.isSome = true → exec seat s = .next (s.refuse .busy)) ∧
     ((s.line n).inputs.tare = none →
       (s.record hole k = none → exec seat s = .next (s.refuse .absent)) ∧
       ∀ r, s.record hole k = some r →
         ((∃ m, r.status = .seatedOn m) ∨ (r.status = .done ∧ regrout = false) → exec seat s = .next (s.refuse .state)) ∧
         (r.status = .opened ∨ (r.status = .done ∧ regrout = true) →
           (otherSeated → exec seat s = .next (s.refuse .hole)) ∧
           (¬otherSeated → regrout = false → s.stageOrderHolds hole k = false → exec seat s = .next (s.refuse .order)) ∧
           (¬otherSeated → (regrout = true ∨ s.stageOrderHolds hole k = true) →
             (barred r → exec seat s = .next (s.refuse .gauge)) ∧
             (¬barred r → (s.line n).pendingResult.isSome = true → exec seat s = .next (s.refuse .pending)))))) ∧
  (∀ (n : LineId) (hole : Tag) (k : Nat) (regrout : Bool) (r : StageRecord) (s : State),
     holeTagOk hole = true → 1 ≤ k → k ≤ 20 → (s.line n).key = .remote → (s.line n).state = .primed →
     (s.line n).inputs.tare = none → (s.line n).pendingResult = none → s.record hole k = some r →
     (r.status = .opened ∨ (r.status = .done ∧ regrout = true)) →
     (∀ q ∈ s.book, q.hole = hole → q.stage ≠ k → ∀ m, q.status ≠ .seatedOn m) →
     (regrout = true ∨ s.stageOrderHolds hole k = true) →
     (∀ g ∈ r.gauges, (s.gauge g).state = .idle ∨ (s.gauge g).state = .watch ∨ (s.gauge g).state = .warn) →
     ∃ u v : State, exec (.seat n hole k (if regrout then .given else .absent)) s = .next (v.answer (.ok [])) ∧
       u.SettledIf ((s.line n).circ.running = true) v ∧
       u.book = s.book.map (fun q => if q.hole = hole ∧ q.stage = k then
         { q with status := .seatedOn n, regrouts := if regrout then min 255 (q.regrouts + 1) else q.regrouts } else q) ∧
       (u.line n).state = .seating ∧ (u.line n).bound = some ⟨hole, k⟩ ∧ (u.line n).regrout = regrout ∧
       (u.line n).startClock = none ∧ (u.line n).endReason = none ∧ (u.line n).heaveMax = none ∧ (u.line n).pauses = 0 ∧
       (u.line n).mixChanges = 0 ∧ (u.line n).fig.volume = 0 ∧ (u.line n).fig.mixVolume = 0 ∧
       (u.line n).circ.running = false ∧ (u.line n).fig.pumpRate = 0 ∧
       (u.line n).valves = ⟨false, false, true, false, false, false⟩ ∧ (u.line n).stateTicks = 0 ∧ (u.line n).condCount = 0 ∧
       (∀ m, m ≠ n → u.line m = s.line m) ∧ u = { s with lines := u.lines, book := u.book })

/-- INJECT past R22's checks: ABSENT without a bound stage, ABSENT for an undefined table, MIX, GAUGE and SENSOR in that order
(R29, R88). INJECT taken: the tables are held, the figures of the stage are 0, the draw is settled on an agitator that holds the
mix, and the line is ARMED at the tail of that agitator's start queue (R29, R48). What follows is the settling of the plant.
An order uses the settings as they stand when it is taken, which is the model's choice (notes/assumptions/33.md). -/
def Obligations.InjectArmsTheLine : Prop :=
  (∀ (n : LineId) (e : EnvelopeId) (w : WindowId) (m : Nat) (release : Bool) (s : State),
     1 ≤ m → m ≤ 6 → (s.line n).key = .remote → s.loop = .closed → (s.line n).state = .seated →
     let inject := Instr.inject n e w m (if release then .given else .absent)
     let undefined := s.envelopes[e] = none ∨ s.windows[w] = none ∨ s.mixEntry m = none
     let held := ∃ a, (s.tank a).mix = some m ∧ ((s.tank a).state = .ready ∨ (s.tank a).state = .receivingTopup)
     let alarmed := ∃ g ∈ (s.line n).watched, (s.gauge g).state = .alarm
     ((s.line n).bound = none → exec inject s = .next (s.refuse .absent)) ∧
     ((s.line n).bound ≠ none → undefined → exec inject s = .next (s.refuse .absent)) ∧
     ((s.line n).bound ≠ none → ¬undefined →
       (¬held → exec inject s = .next (s.refuse .mix)) ∧
       (held → alarmed → exec inject s = .next (s.refuse .gauge)) ∧
       (held → ¬alarmed → (s.line n).inputs.collar.degraded = true → exec inject s = .next (s.refuse .sensor)))) ∧
  (∀ (n : LineId) (e : EnvelopeId) (w : WindowId) (m : Nat) (release : Bool) (a b : AgitatorId) (s : State),
      1 ≤ m → m ≤ 6 → (s.line n).key = .remote → s.loop = .closed → (s.line n).state = .seated → (s.line n).bound ≠ none →
      s.envelopes[e] ≠ none → s.windows[w] ≠ none → s.mixEntry m ≠ none →
      (∀ g ∈ (s.line n).watched, (s.gauge g).state ≠ .alarm) → (s.line n).inputs.collar.degraded = false →
      (s.line n).draw = some a → s.tankHolds b m = true → (a ≠ b → s.tankHolds a m = false) →
      ∃ u : State, exec (.inject n e w m (if release then .given else .absent)) s = .next (u.settle.answer (.ok [])) ∧
        (u.line n).state = .armed ∧ (u.line n).envelope = some e ∧ (u.line n).window = some w ∧
        (u.line n).releaseFlag = release ∧ (u.line n).draw = some b ∧ (u.line n).drawMix = some m ∧
        (u.line n).front = (if a = b then (s.line n).front else (s.line n).settings.hose) ∧
        (u.line n).mixChanges = (s.line n).mixChanges ∧ (u.line n).circ = (s.line n).circ ∧
        (u.line n).fig.volume = 0 ∧ (u.line n).fig.mixVolume = 0 ∧ (u.line n).fig.pointIndex = 0 ∧
        (u.line n).fig.dwellCount = 0 ∧ (u.line n).fig.refusalCount = 0 ∧ (u.line n).fig.lastPe = 0 ∧
        (u.line n).fig.maxPe = 0 ∧ (u.line n).fig.lastAllowed = 0 ∧ (u.line n).fig.lastTarget = 0 ∧
        (u.line n).fig.lastIntensity = 0 ∧ (u.line n).fig.lastTake = 0 ∧ (u.line n).fig.warnCap = none ∧ (u.line n).fig.tripMark = false ∧
        (∀ k, (s.line n).columnMix = some k → (u.line n).fig.mixList = [k]) ∧
        (u.tank b).startQueue = (s.tank b).startQueue ++ [n] ∧
        (∀ m', m' ≠ n → u.line m' = s.line m') ∧
        u = { s with lines := u.lines, tankA := u.tankA, tankB := u.tankB })

/-! ## Line states and orders -/

/-- Entry to a state: the state timer, condition count and slow mark start at 0 and clear (R21); the valves and the pump are as
R20's table gives; a circulation run goes on only in its four states (R158); the packer and communication items are cleared
outside theirs (R145, R146). Nothing else of the line changes. That the timer, the count and the mark start anew at entry to a
state that has no timer too is the model's reading (notes/assumptions/12.md).
The settings are used as they stand when the act is taken, which is the model's choice (notes/assumptions/33.md). -/
def Obligations.StateEntryDrivesTheOutputs : Prop :=
  ∀ (st : LineState) (l : Line),
    let e := l.enter st
    let run := l.circ.running && (st == .primed || st == .seated || st == .armed || st == .paused)
    e.valves = ⟨st == .injecting, st == .priming || run, st == .seating,
      st == .decaying || st == .releasing || st == .fouled,
      st == .dry || st == .priming || st == .primed || st == .releasing || st == .washing || st == .fouled,
      st == .washing⟩ ∧
    e.fig.pumpRate = (if st = .priming ∨ st = .washing then l.settings.crate else if run then l.fig.pumpRate else 0) ∧
    ((st = .seated ∨ st = .armed ∨ st = .injecting ∨ st = .paused) →
      e.latch.packerCount = l.latch.packerCount ∧ e.latch.packerMark = l.latch.packerMark) ∧
    (st ≠ .seated → st ≠ .armed → st ≠ .injecting → st ≠ .paused → e.latch.packerCount = 0 ∧ e.latch.packerMark = false) ∧
    e.latch.commMark = (l.latch.commMark && (st == .seated || st == .armed || st == .paused)) ∧
    e.SameButChecks { l with
      state := st
      stateTicks := 0
      condCount := 0
      slowMark := false
      valves := e.valves
      fig := { l.fig with pumpRate := e.fig.pumpRate }
      circ := { l.circ with running := run } }

/-- CANCEL, PAUSE and RESUME taken (R31, R32, R33), each with the queues, the events and the withdrawal that it brings. -/
def Obligations.CancelPauseAndResume : Prop :=
  ∀ (n : LineId) (s : State), (s.line n).key = .remote →
    let l := s.line n
    let out := fun u : State => ∀ a, u.tank a = { s.tank a with startQueue := (s.tank a).startQueue.filter (· ≠ n) }
    let others := fun u : State => (∀ m, m ≠ n → u.line m = s.line m) ∧ ∀ m : LineId, m ≠ n → u.lineHolds[m] = s.lineHolds[m]
    (l.state = .armed → l.startClock = none → ∃ u : State, exec (.cancel n) s = .next (u.settle.answer (.ok [])) ∧
      u.line n = { l.enter .seated with envelope := none, window := none, pendingMix := none, releaseFlag := false } ∧
      u.batchQueue = s.batchQueue.filter (fun r => !u.notNeeded r) ∧ out u ∧ others u ∧
      u = { s with lines := u.lines, tankA := u.tankA, tankB := u.tankB, batchQueue := u.batchQueue }) ∧
    (l.state = .armed → l.startClock ≠ none → ∃ u : State, exec (.cancel n) s = .next (u.settle.answer (.ok [])) ∧
      u.line n = { l.enter .paused with pauseCause := some .order } ∧
      u.lineHolds[n] = s.lineHolds[n].place 2 (s.ownEvent n .paused (some (.cause .order))) ∧ out u ∧ others u ∧
      u = { s with lines := u.lines, tankA := u.tankA, tankB := u.tankB, lineHolds := u.lineHolds }) ∧
    (l.state = .injecting → ∃ u : State, exec (.pause n) s = .next (u.answer (.ok [])) ∧
      u.line n = { l.enter .paused with
        pauses := min 255 (l.pauses + 1)
        pauseCause := some .order
        fig := { (l.enter .paused).fig with refusalCount := 0 } } ∧
      u.lineHolds[n] = s.lineHolds[n].place 2 (s.ownEvent n .paused (some (.cause .order))) ∧ out u ∧ others u ∧
      u = { s with lines := u.lines, tankA := u.tankA, tankB := u.tankB, lineHolds := u.lineHolds }) ∧
    (l.state = .paused → s.loop = .closed →
      ((∃ g ∈ l.watched, (s.gauge g).state = .alarm) → exec (.resume n) s = .next (s.refuse .gauge)) ∧
      ((∀ g ∈ l.watched, (s.gauge g).state ≠ .alarm) →
        (l.inputs.collar.degraded = true → exec (.resume n) s = .next (s.refuse .sensor)) ∧
        (l.inputs.collar.degraded = false → ∀ a, l.draw = some a →
          ((s.tank a).level = 0 → exec (.resume n) s = .next (s.refuse .empty)) ∧
          (0 < (s.tank a).level → ∃ u : State, exec (.resume n) s = .next (u.settle.answer (.ok [])) ∧
            u.line n = { l.enter .armed with pauseCause := none } ∧ others u ∧
            u.tank a = { s.tank a with startQueue := (s.tank a).startQueue ++ [n] } ∧ (∀ b, b ≠ a → u.tank b = s.tank b) ∧
            u = { s with lines := u.lines, tankA := u.tankA, tankB := u.tankB }))))

/-- END taken: the stage result is built and handed to the queue, or to the pending slot when the queue is full; the envelope,
window, pending mix and pause cause are let go, ENDED is raised, and SHUT-IN, or DECAYING with a SHUTIN of 0, is entered (R34,
R35, R178, R180). The plant settles where a pending mix is cleared or a circulation run ends with it, and else not (R114; the
model's reading of R114's list, notes/assumptions/18.md). An order uses the settings as they stand when it is taken, which is
the model's choice (notes/assumptions/33.md). -/
def Obligations.EndHandsOffTheStage : Prop :=
  ∀ (n : LineId) (b : StageRef) (c : Clock) (s : State),
    let l := s.line n
    let r : StageResult := ⟨b.hole, b.stage, n, c, s.clock, .ordered, l.fig.volume, l.fig.lastTake, l.fig.maxPe, l.fig.lastPe,
      l.fig.lastIntensity, l.fig.mixList, l.mixChanges, l.pauses, l.regrout, l.heaveMax⟩
    l.key = .remote → (l.state = .injecting ∨ l.state = .paused) → l.bound = some b → l.startClock = some c →
    ∃ u v : State, exec (.endStage n) s = .next (v.answer (.ok [])) ∧
      u.SettledIf (l.pendingMix ≠ none ∨ l.circ.running = true) v ∧
      (s.results.length < 16 → u.results = s.results ++ [r] ∧ (u.line n).pendingResult = l.pendingResult) ∧
      (16 ≤ s.results.length → u.results = s.results ∧ (u.line n).pendingResult = some r) ∧
      u.line n = { l.enter (if l.settings.shutin = 0 then .decaying else .shutIn) with
        endReason := some .ordered
        pendingResult := (u.line n).pendingResult
        envelope := none
        window := none
        pendingMix := none
        pauseCause := none } ∧
      u.batchQueue = s.batchQueue.filter (fun r => !u.notNeeded r) ∧
      u.lineHolds[n] = s.lineHolds[n].place 2 (s.ownEvent n .ended (some (.reason .ordered))) ∧
      (∀ m, m ≠ n → u.line m = s.line m) ∧ (∀ m : LineId, m ≠ n → u.lineHolds[m] = s.lineHolds[m]) ∧
      u = { s with lines := u.lines, lineHolds := u.lineHolds, batchQueue := u.batchQueue, results := u.results }

/-- ABORT taken: in SEATING the record returns to OPEN and the line to PRIMED (R28); in the other states a started stage's
result is handed over with ABORTED, and DECAYING is entered with the release flag set (R42); the plant settles where a start
queue is left, a pending mix cleared or a circulation run ended with it, and else not (R114; the model's reading of R114's list,
notes/assumptions/18.md). -/
def Obligations.AbortDropsTheStage : Prop :=
  ∀ (n : LineId) (b : StageRef) (s : State),
    let l := s.line n
    let others := fun u : State => (∀ m, m ≠ n → u.line m = s.line m) ∧ ∀ m : LineId, m ≠ n → u.lineHolds[m] = s.lineHolds[m]
    l.key = .remote → l.bound = some b →
    (l.state = .seating → ∃ u : State, exec (.abort n) s = .next (u.answer (.ok [])) ∧
      u.line n = { l.enter .primed with bound := none, endReason := none } ∧
      u.book = s.book.map (fun q => if q.hole = b.hole ∧ q.stage = b.stage then
        { q with status := .opened, interrupted := min 255 (q.interrupted + 1) } else q) ∧
      u.lineHolds[n] = s.lineHolds[n].place 2 (s.ownEvent n .aborted) ∧ others u ∧
      u = { s with lines := u.lines, lineHolds := u.lineHolds, book := u.book }) ∧
    (l.state = .seated ∨ l.state = .armed ∨ l.state = .injecting ∨ l.state = .paused →
      ∃ u v : State, exec (.abort n) s = .next (v.answer (.ok [])) ∧
        u.SettledIf ((∃ a, n ∈ (s.tank a).startQueue) ∨ l.pendingMix ≠ none ∨ l.circ.running = true) v ∧
        (l.startClock = none → u.results = s.results ∧ (u.line n).pendingResult = l.pendingResult) ∧
        (∀ c, l.startClock = some c →
          let r : StageResult := ⟨b.hole, b.stage, n, c, s.clock, .aborted, l.fig.volume, l.fig.lastTake, l.fig.maxPe,
            l.fig.lastPe, l.fig.lastIntensity, l.fig.mixList, l.mixChanges, l.pauses, l.regrout, l.heaveMax⟩
          (s.results.length < 16 → u.results = s.results ++ [r] ∧ (u.line n).pendingResult = l.pendingResult) ∧
          (16 ≤ s.results.length → u.results = s.results ∧ (u.line n).pendingResult = some r)) ∧
        u.line n = { l.enter .decaying with
          endReason := some .aborted
          pendingResult := (u.line n).pendingResult
          envelope := none
          window := none
          pendingMix := none
          pauseCause := none
          releaseFlag := true } ∧
        (∀ a, u.tank a = { s.tank a with startQueue := (s.tank a).startQueue.filter (· ≠ n) }) ∧
        u.batchQueue = s.batchQueue.filter (fun r => !u.notNeeded r) ∧
        u.lineHolds[n] = s.lineHolds[n].place 2 (s.ownEvent n .aborted (some (.num (l.fig.volume / 1000 : Nat)))) ∧ others u ∧
        u = { s with
          lines := u.lines
          lineHolds := u.lineHolds
          batchQueue := u.batchQueue
          results := u.results
          tankA := u.tankA
          tankB := u.tankB })

/-- RELEASE taken, or refused with PRESSURE where Pc is above RELP and FORCE is not given (R39); MIX taken, or refused with
RANGE, ABSENT or MIX (R73). The plant settles after MIX, and after RELEASE where a circulation run ends with it (R114, R158;
that it settles after no other RELEASE is the model's reading, notes/assumptions/18.md). Pc is that of the line's last sample,
which is the model's reading (notes/assumptions/21.md). An order uses the settings as they stand when it is taken, which is the
model's choice (notes/assumptions/33.md). -/
def Obligations.ReleaseAndMix : Prop :=
  ∀ (n : LineId) (k : Nat) (s : State),
    let l := s.line n
    let pc := l.inputs.collar.value - l.inputs.pcOffset
    (l.key = .remote → l.state = .seated → l.settings.relp < pc → exec (.release n .absent) s = .next (s.refuse .pressure)) ∧
    (l.key = .remote → l.state = .seated → pc ≤ l.settings.relp → ∃ u v : State,
      exec (.release n .absent) s = .next (v.answer (.ok [])) ∧ u.SettledIf (l.circ.running = true) v ∧ u.line n = l.enter .releasing ∧
      s.OnlyLine u n ∧ u.lineHolds[n] = s.lineHolds[n]) ∧
    (l.key = .remote → (l.state = .seated ∨ l.state = .decaying) → ∃ u v : State,
      exec (.release n .given) s = .next (v.answer (.ok [])) ∧ u.SettledIf (l.circ.running = true) v ∧ u.line n = l.enter .releasing ∧
      s.OnlyLine u n ∧ u.lineHolds[n] = s.lineHolds[n]) ∧
    (¬(1 ≤ k ∧ k ≤ 6) → exec (.mix n k) s = .next (s.refuse .range)) ∧
    (1 ≤ k → k ≤ 6 → (l.state = .armed ∨ l.state = .injecting ∨ l.state = .paused) →
      (s.mixEntry k = none → exec (.mix n k) s = .next (s.refuse .absent)) ∧
      (s.mixEntry k ≠ none → l.drawMix = some k → exec (.mix n k) s = .next (s.refuse .mix)) ∧
      (s.mixEntry k ≠ none → l.drawMix ≠ some k → ∃ u : State, exec (.mix n k) s = .next (u.settle.answer (.ok [])) ∧
        u.line n = { l with pendingMix := some k } ∧ (∀ m, m ≠ n → u.line m = s.line m) ∧
        u.batchQueue = s.batchQueue.filter (fun r => !u.notNeeded r) ∧
        u = { s with lines := u.lines, batchQueue := u.batchQueue }))

/-- CIRCULATE, WASH and TARE past R22's checks: their own checks in order, and what they leave when taken (R13, R43, R160). The
plant settles after a WASH that leaves a drawer set, clears a pending mix or ends a run, and after no other (R94, R114; the
model's reading, notes/assumptions/18.md). An order uses the settings as they stand when it is taken, which is the model's
choice (notes/assumptions/33.md). -/
def Obligations.CirculateWashAndTare : Prop :=
  ∀ (n : LineId) (s : State),
    let l := s.line n
    (l.key = .remote → s.loop = .closed → (l.state = .primed ∨ l.state = .seated ∨ l.state = .armed ∨ l.state = .paused) →
      (l.inputs.tare ≠ none ∨ l.circ.running = true → exec (.circulate n) s = .next (s.refuse .busy)) ∧
      (l.inputs.tare = none → l.circ.running = false → ∀ a, l.draw = some a →
        ((s.tank a).state ≠ .ready → exec (.circulate n) s = .next (s.refuse .state)) ∧
        ((s.tank a).state = .ready → (s.tank a).level = 0 → exec (.circulate n) s = .next (s.refuse .empty)) ∧
        ((s.tank a).state = .ready → 0 < (s.tank a).level → ∃ u : State, exec (.circulate n) s = .next (u.answer (.ok [])) ∧
          u.line n = { l with
            valves := ⟨false, true, false, false, l.state == .primed, false⟩
            fig := { l.fig with pumpRate := l.settings.crate }
            circ := { l.circ with running := true, runCount := 0 } } ∧
          s.OnlyLine u n ∧ u.lineHolds[n] = s.lineHolds[n]))) ∧
    (l.key = .remote → s.loop = .closed → (l.state = .primed ∨ l.state = .fouled) →
      (l.inputs.tare ≠ none → exec (.wash n) s = .next (s.refuse .busy)) ∧
      (l.inputs.tare = none → ∃ u v : State, exec (.wash n) s = .next (v.answer (.ok [])) ∧
        u.SettledIf (l.draw ≠ none ∨ l.pendingMix ≠ none ∨ l.circ.running = true) v ∧
        u.line n = { l.enter .washing with
          draw := none
          columnMix := none
          drawMix := none
          pendingMix := none
          front := 0
          pauseCause := none
          circ := { (l.enter .washing).circ with age := none, blocked := false } } ∧
        (∀ m, m ≠ n → u.line m = s.line m) ∧ u.batchQueue = s.batchQueue.filter (fun r => !u.notNeeded r) ∧
        u = { s with lines := u.lines, batchQueue := u.batchQueue })) ∧
    (l.state = .dry ∨ l.state = .primed →
      (l.inputs.tare ≠ none ∨ l.circ.running = true → exec (.tare n) s = .next (s.refuse .busy)) ∧
      (l.inputs.tare = none → l.circ.running = false →
        (l.inputs.collar.degraded = true → exec (.tare n) s = .next (s.refuse .sensor)) ∧
        (l.inputs.collar.degraded = false → ∃ u : State, exec (.tare n) s = .next (u.answer (.ok [])) ∧
          u.line n = { l with inputs := { l.inputs with tare := some ⟨0, 0⟩ } } ∧
          s.OnlyLine u n ∧ u.lineHolds[n] = s.lineHolds[n])))

/-! ## Stage book, map and results -/

/-- STAGE ADD: RANGE, EXISTS and FULL in that order, else an OPEN record at the end of the book, and an entry in the map for a hole
that has none (R116). STAGE DROP and HOLE CLEAR: what each refuses and what it removes (R117, R120). What a hole tag is (R115). -/
def Obligations.StageRecordsComeAndGo : Prop :=
  (∀ (hole : Tag) (k top bottom : Nat) (gs : List GaugeId) (s : State), gs.length ≤ 2 →
     let add := Instr.stageAdd hole k top bottom (gs.map (·.val))
     let fields := holeTagOk hole = true ∧ (1 ≤ k ∧ k ≤ 20) ∧ bottom ≤ 2000 ∧ top + 10 ≤ bottom ∧ bottom ≤ top + 300 ∧ gs.Nodup
     let mapped := ∃ e ∈ s.holes, e.hole = hole
     let full := 48 ≤ s.book.length ∨ (¬mapped ∧ 16 ≤ s.holes.length)
     (∀ gs' : List Nat, gs'.length ≤ 2 → (∃ g ∈ gs', 12 ≤ g) →
       exec (.stageAdd hole k top bottom gs') s = .next (s.refuse .range)) ∧
     (¬fields → exec add s = .next (s.refuse .range)) ∧
     (fields → s.record hole k ≠ none → exec add s = .next (s.refuse .exists)) ∧
     (fields → s.record hole k = none → full → exec add s = .next (s.refuse .full)) ∧
     (fields → s.record hole k = none → ¬full → ∃ u : State, exec add s = .next (u.answer (.ok [])) ∧
       u.book = s.book ++ [⟨hole, k, top, bottom, gs, .opened, 0, 0⟩] ∧
       (mapped → u.holes = s.holes) ∧ (¬mapped → u.holes = s.holes ++ [⟨hole, Vector.replicate 20 false⟩]) ∧
       u = { s with book := u.book, holes := u.holes })) ∧
  (∀ hole : Tag, holeTagOk hole = true ↔ 1 ≤ hole.length ∧ hole.length ≤ 6 ∧
     (∀ c ∈ hole, ('A' ≤ c ∧ c ≤ 'Z') ∨ ('0' ≤ c ∧ c ≤ '9')) ∧ hole ≠ ['A', 'D', 'D'] ∧ hole ≠ ['D', 'R', 'O', 'P']) ∧
  (∀ (hole : Tag) (k : Nat) (s : State), ¬(holeTagOk hole = true ∧ 1 ≤ k ∧ k ≤ 20) →
     exec (.stageDrop hole k) s = .next (s.refuse .range)) ∧
  (∀ (hole : Tag) (s : State), holeTagOk hole = false → exec (.holeClear hole) s = .next (s.refuse .range) ∧
     exec (.map hole) s = .next (s.refuse .range)) ∧
  (∀ (hole : Tag) (k : Nat) (s : State), holeTagOk hole = true → 1 ≤ k → k ≤ 20 →
     (s.record hole k = none → exec (.stageDrop hole k) s = .next (s.refuse .absent)) ∧
     (∀ r n, s.record hole k = some r → r.status = .seatedOn n → exec (.stageDrop hole k) s = .next (s.refuse .state)) ∧
     (∀ r, s.record hole k = some r → (∀ n, r.status ≠ .seatedOn n) → exec (.stageDrop hole k) s =
       .next ({ s with book := s.book.filter fun q => !(q.hole = hole ∧ q.stage = k) }.answer (.ok []))) ∧
     ((∀ e ∈ s.holes, e.hole ≠ hole) → exec (.holeClear hole) s = .next (s.refuse .absent)) ∧
     ((∃ e ∈ s.holes, e.hole = hole) → (∃ r ∈ s.book, r.hole = hole) → exec (.holeClear hole) s = .next (s.refuse .busy)) ∧
     ((∃ e ∈ s.holes, e.hole = hole) → (∀ r ∈ s.book, r.hole ≠ hole) → exec (.holeClear hole) s =
       .next ({ s with holes := s.holes.filter fun e => !(e.hole = hole) }.answer (.ok []))))

/-- STAGE, BOOK and MAP answer with the records and marks as they stand and change nothing (R118, R120). PLANT and GAUGE answer with
the figures as they stand and change nothing (R112, R137). That SEATED-ON and its line, and an agitator's state and its receive
kind, are two fields each is the model's reading (notes/assumptions/20.md). -/
def Obligations.BookPlantAndGaugeAreRead : Prop :=
  (let status : StageStatus → List Field := fun st => match st with
     | .opened => [wordField "OPEN"]
     | .seatedOn n => [wordField "SEATED-ON", .num (n.val : Nat)]
     | .done => [wordField "DONE"]
   ∀ s : State,
     let shown : StageRecord → List Field := fun r =>
       [.word r.hole, .num r.stage, .num r.top, .num r.bottom, .nums (r.gauges.map (·.val))] ++ status r.status ++
         [.num r.interrupted, .num r.regrouts, .flag (s.mark r.hole r.stage)]
     (∀ hole k, holeTagOk hole = true → 1 ≤ k → k ≤ 20 →
       (s.record hole k = none → exec (.stage hole k) s = .next (s.refuse .absent)) ∧
       ∀ r, s.record hole k = some r → exec (.stage hole k) s = .next (s.answer (.ok (shown r)))) ∧
     (∀ hole k, ¬(holeTagOk hole = true ∧ 1 ≤ k ∧ k ≤ 20) → exec (.stage hole k) s = .next (s.refuse .range)) ∧
     (∀ i, 48 ≤ i → exec (.book (some i)) s = .next (s.refuse .range)) ∧
     (∀ i, i < 48 → s.book.length ≤ i → exec (.book (some i)) s = .next (s.refuse .absent)) ∧
     (∀ i r, i < 48 → s.book[i]? = some r → exec (.book (some i)) s = .next (s.answer (.ok (shown r)))) ∧
     (∃ opened seated done : Nat, opened + seated + done = s.book.length ∧
       opened = (s.book.filter fun r => r.status = .opened).length ∧ done = (s.book.filter fun r => r.status = .done).length ∧
       exec (.book none) s = .next (s.answer (.ok [.num s.book.length, .num opened, .num seated, .num done, .num s.holes.length,
         wordField (if s.plant.method = .down then "DOWN" else "UP")]))) ∧
     (∀ hole, holeTagOk hole = true → (∀ e ∈ s.holes, e.hole ≠ hole) → exec (.map hole) s = .next (s.refuse .absent)) ∧
     (∀ hole k, (∀ e ∈ s.holes, e.hole ≠ hole) → s.mark hole k = false) ∧
     (∀ hole e, s.holeEntry hole = some e → e ∈ s.holes ∧ e.hole = hole ∧
       ∀ k : Fin 20, s.mark hole (k.val + 1) = e.marks[k]) ∧
     (∀ hole e, holeTagOk hole = true → s.holeEntry hole = some e → exec (.map hole) s = .next (s.answer (.ok
       ([Field.word hole] ++ e.marks.toList.map Field.flag ++
         [Field.num ((s.book.filter fun r => r.hole = hole).length : Nat)]))))) ∧
  (let request : Request → List Field := fun r =>
     [wordField (match r.tank with | .one .tankA => "A" | .one .tankB => "B" | .any => "ANY"), .num r.mix,
       wordField (if r.kind = .topup then "TOPUP" else "CHANGE"),
       match r.origin with
       | .auto => wordField "AUTO"
       | .line n => .word ('L' :: Nat.toDigits 10 n.val)
       | .order => wordField "ORDER"]
   ∀ s : State,
     let mixer : List Field := match s.mixer with
       | .idle => [wordField "IDLE", .absent]
       | .waiting _ r => wordField "WAITING" :: request r
       | .mixing _ r => wordField "MIXING" :: request r
     let tank : AgitatorId → List Field := fun a =>
       let k := s.tank a
       (match k.state with
         | .empty => [wordField "EMPTY", Field.absent]
         | .ready => [wordField "READY", Field.absent]
         | .dumping => [wordField "DUMPING", Field.absent]
         | .receivingTopup => [wordField "RECEIVING", wordField "TOPUP"]
         | .receivingChange => [wordField "RECEIVING", wordField "CHANGE"]) ++
       [optField (fun m : Nat => .num m) k.mix, optField (fun m : Mix => .word m.tag) (k.mix.bind s.mixEntry),
         .num (k.level / 1000 : Nat), .num k.cap, .num k.low, .nums ((s.drawers a).map (·.val)),
         .nums (k.startQueue.map (·.val)), .num k.stagger]
     exec .plant s = .next (s.answer (.ok (mixer ++ [Field.num s.phaseTimer, Field.num s.batchQueue.length] ++
       s.batchQueue.flatMap request ++ tank .tankA ++ tank .tankB))) ∧
     (∀ g : Nat, 12 ≤ g → exec (.gauge g) s = .next (s.refuse .range)) ∧
     ∀ g : GaugeId, exec (.gauge g) s = .next (s.answer (.ok
       [.num (g.val : Nat), wordField (gaugeStateName (s.gauge g).state), .flag ((s.gauge g).state != .off),
         .num (s.gauge g).span, .num (s.gauge g).warn, .num (s.gauge g).alarm, .num (s.gauge g).hyst, .num (s.gauge g).heave,
         .num (s.gauge g).baseline, .num ((s.gauge g).heave - (s.gauge g).baseline), .num (s.gauge g).maximum,
         .num (s.gauge g).faults, .nums ((s.watchers g).map (·.val))])))

/-- TAKE answers with the oldest result and removes it; one pending result, the lowest in end clock and then in line, joins the
queue. An empty queue is answered NO EMPTY (R175, R181). -/
def Obligations.TakeRemovesTheOldestResult : Prop :=
  ∀ s : State,
    let shown : StageResult → List Field := fun r =>
      [.word r.hole, .num r.stage, .num (r.line.val : Nat), .num (r.startClock.toNat : Nat), .num (r.endClock.toNat : Nat),
        wordField (endReasonName r.reason), .num r.volume, .num r.take, .num r.maxPe, .num r.finalPe, .num r.finalG,
        .nums r.mixes, .num r.mixChanges, .num r.pauses, .flag r.regrout, optField (fun h : Nat => .num h) r.heave]
    (∀ f fs, orderOf (['T', 'A', 'K', 'E'] :: f :: fs) = .error .form) ∧
    (s.results = [] → exec .take s = .next (s.refuse .empty)) ∧
    (∀ r rs, s.results = r :: rs → (∀ n, (s.line n).pendingResult = none) →
      exec .take s = .next ({ s with results := rs }.answer (.ok (shown r)))) ∧
    (∀ r rs n q, s.results = r :: rs → (s.line n).pendingResult = some q →
      (∀ m p, (s.line m).pendingResult = some p → q.endClock.toNat < p.endClock.toNat ∨ (q.endClock = p.endClock ∧ n ≤ m)) →
      ∃ u : State, exec .take s = .next (u.answer (.ok (shown r))) ∧ u.results = rs ++ [q] ∧
        u.line n = { s.line n with pendingResult := none } ∧ (∀ m, m ≠ n → u.line m = s.line m) ∧
        u = { s with lines := u.lines, results := u.results })

/-! ## Plant and gauge orders -/

/-- LEVEL: RANGE, then STATE where the agitator holds no mix; else the level is set, clamped to the capacity, and at level 0 an
agitator without drawers becomes EMPTY and one with drawers is starved: its INJECTING and ARMED drawers are paused and its
PRIMING ones stopped (R96, R97; that an INJECTING drawer reports no volume before its pause is the model's choice,
notes/assumptions/35.md). What follows is the settling of the plant. BATCH: RANGE, ABSENT and FULL in that order, else a request
with origin ORDER joins the tail of the queue, a TOPUP where the agitator holds the mix and else a CHANGE; a duplicate creates
nothing (R98, R101). What follows is the settling of the plant. -/
def Obligations.LevelAndBatchAct : Prop :=
  (∀ (a : AgitatorId) (litres : Nat) (s : State),
     let k := s.tank a
     let ml := min (litres * 1000) (k.cap * 1000)
     (3000 < litres → exec (.level (some a) litres) s = .next (s.refuse .range)) ∧
     exec (.level none litres) s = .next (s.refuse .range) ∧
     (litres ≤ 3000 → k.state = .receivingTopup → ml = 0 → (∀ n, (s.line n).draw ≠ some a) →
       exec (.level (some a) litres) s = .next ((s.setTank a { k with level := 0 }).settle.answer (.ok []))) ∧
     (litres ≤ 3000 → k.state ≠ .ready → k.state ≠ .receivingTopup → exec (.level (some a) litres) s = .next (s.refuse .state)) ∧
     (litres ≤ 3000 → (k.state = .ready ∨ k.state = .receivingTopup) → 0 < ml → exec (.level (some a) litres) s =
       .next ((s.setTank a { k with level := ml }).settle.answer (.ok []))) ∧
     (litres ≤ 3000 → k.state = .ready → ml = 0 → (∀ n, (s.line n).draw ≠ some a) → exec (.level (some a) litres) s =
       .next ((s.setTank a { k with state := .empty, mix := none, level := 0 }).settle.answer (.ok []))) ∧
     (litres ≤ 3000 → (k.state = .ready ∨ k.state = .receivingTopup) → ml = 0 → (∃ n, (s.line n).draw = some a) →
       ∃ u : State, exec (.level (some a) litres) s = .next (u.settle.answer (.ok [])) ∧
         (u.tank a).level = 0 ∧ (u.tank a).state = k.state ∧ (u.tank a).mix = k.mix ∧
         (∀ n, (s.line n).draw = some a → ((s.line n).state = .injecting ∨ (s.line n).state = .armed) →
           (u.line n).state = .paused ∧ (u.line n).pauseCause = some .starved ∧ n ∉ (u.tank a).startQueue ∧
           u.lineHolds[n] = s.lineHolds[n].place 2 (s.ownEvent n .paused (some (.cause .starved)))) ∧
         (∀ n, (s.line n).draw = some a → (s.line n).state = .priming → (u.line n).fig.pumpRate = 0) ∧
         (∀ n, (s.line n).draw ≠ some a → u.line n = s.line n ∧ u.lineHolds[n] = s.lineHolds[n]) ∧
         (0 < k.level → u.plantHold = s.plantHold.place 4 ⟨.agitatorEmpty, s.clock, some (.tank a),
           k.mix.map fun m => .num m, some (.lines (s.drawers a))⟩) ∧
         (k.level = 0 → u.plantHold = s.plantHold))) ∧
  (∀ (a : AgitatorId) (k : Nat) (s : State),
     let holds := (s.tank a).mix = some k ∧ ((s.tank a).state = .ready ∨ (s.tank a).state = .receivingTopup)
     let duplicate := ∃ r ∈ s.batchQueue, r.tank = .one a ∧ r.mix = k
     (¬(1 ≤ k ∧ k ≤ 6) → exec (.batch (some a) k) s = .next (s.refuse .range)) ∧ exec (.batch none k) s = .next (s.refuse .range) ∧
     (1 ≤ k → k ≤ 6 → s.mixEntry k = none → exec (.batch (some a) k) s = .next (s.refuse .absent)) ∧
     (1 ≤ k → k ≤ 6 → s.mixEntry k ≠ none →
       (duplicate → exec (.batch (some a) k) s = .next (s.settle.answer (.ok []))) ∧
       (¬duplicate → 8 ≤ s.batchQueue.length → exec (.batch (some a) k) s = .next (s.refuse .full)) ∧
       (¬duplicate → s.batchQueue.length < 8 →
         (holds → exec (.batch (some a) k) s =
           .next ({ s with batchQueue := s.batchQueue ++ ([⟨.one a, k, .topup, .order⟩] : List Request) }.settle.answer (.ok []))) ∧
         (¬holds → exec (.batch (some a) k) s =
           .next ({ s with batchQueue := s.batchQueue ++ ([⟨.one a, k, .change, .order⟩] : List Request) }.settle.answer (.ok []))))))

/-- UPLIFT CLEAR: STATE unless the gauge is in ALARM, below warn − hysteresis and its last sample good; else WATCH or IDLE by its
watcher set, the baseline and maximum kept, and UPLIFT CLEAR raised (R136). -/
def Obligations.UpliftClearEndsAnAlarm : Prop :=
  ∀ (g : GaugeId) (s : State),
    let q := s.gauge g
    let clear := q.state = .alarm ∧ q.heave - q.baseline < (q.warn : Int) - q.hyst ∧ q.faults = 0
    (¬clear → exec (.upliftClear g) s = .next (s.refuse .state)) ∧
    (clear → ∃ u : State, exec (.upliftClear g) s = .next (u.answer (.ok [])) ∧
      ((∃ n, g ∈ (s.line n).watched) → u.gauge g = { q with state := .watch }) ∧
      ((∀ n, g ∉ (s.line n).watched) → u.gauge g = { q with state := .idle }) ∧
      (∀ h, h ≠ g → u.gauge h = s.gauge h) ∧
      u.plantHold = s.plantHold.place 4 ⟨.upliftClear, s.clock, some (.gauge g), some (.num (q.heave - q.baseline)), none⟩ ∧
      u = { s with gauges := u.gauges, plantHold := u.plantHold }) ∧
    ∀ g' : Nat, 12 ≤ g' → exec (.upliftClear g') s = .next (s.refuse .range) ∧ exec (.gauge g') s = .next (s.refuse .range)

/-! ## Site stop and keys -/

/-- The loop opening and closing, and a lockout key turned (R152, R153, R154, R155). A turn to the position in which the loop or
key already stands changes nothing (the model's choice, notes/assumptions/14.md). That PAUSED goes before KEY in the line's
hold, and the lines' PAUSED before SITE STOP, is the model's reading (notes/assumptions/23.md). The plant settles where a start
queue is left or a circulation run ends with it, and else not (R114; the model's reading of R114's list,
notes/assumptions/18.md). The settings are used as they stand when the act is taken, which is the model's choice
(notes/assumptions/33.md). -/
def Obligations.LoopAndKeysAct : Prop :=
  ∀ (n : LineId) (s : State),
    (s.loop = .closed → ∃ u v : State, exec .siteStopOpen s = .next v ∧
      u.SettledIf (∃ m, (s.line m).circ.running = true ∨
        (((s.line m).state = .injecting ∨ (s.line m).state = .armed) ∧ ∃ a, m ∈ (s.tank a).startQueue)) v ∧ u.loop = .opened ∧
      (∀ m, (u.line m).fig.pumpRate = 0 ∧ (u.line m).circ.running = false) ∧
      (∀ m, ((s.line m).state = .injecting ∨ (s.line m).state = .armed) →
        (u.line m).state = .paused ∧ (u.line m).pauseCause = some .siteStop ∧ (∀ a, m ∉ (u.tank a).startQueue) ∧
        u.lineHolds[m] = s.lineHolds[m].place 2 (s.ownEvent m .paused (some (.cause .siteStop)))) ∧
      (∀ m, (s.line m).state ≠ .injecting → (s.line m).state ≠ .armed →
        (u.line m).state = (s.line m).state ∧ (u.line m).pauseCause = (s.line m).pauseCause ∧
        (u.line m).stateTicks = (s.line m).stateTicks ∧ u.lineHolds[m] = s.lineHolds[m]) ∧
      u.plantHold = s.plantHold.place 4 ⟨.siteStop, s.clock, none, none, none⟩ ∧
      u = { s with
        lines := u.lines
        lineHolds := u.lineHolds
        tankA := u.tankA
        tankB := u.tankB
        loop := .opened
        plantHold := u.plantHold }) ∧
    (s.loop = .opened → exec .siteStopOpen s = .next s) ∧
    (s.loop = .opened → ∃ u : State, exec .siteStopClose s = .next u ∧ u.loop = .closed ∧
      (∀ m, u.line m = { s.line m with fig := { (s.line m).fig with pumpRate := (u.line m).fig.pumpRate } }) ∧
      (∀ m, ((s.line m).state = .priming ∨ (s.line m).state = .washing) → (s.line m).key = .locl → (u.line m).fig.pumpRate = 0) ∧
      (∀ m, (s.line m).state = .washing → (s.line m).key = .remote → (u.line m).fig.pumpRate = (s.line m).settings.crate) ∧
      (∀ m a, (s.line m).state = .priming → (s.line m).key = .remote → (s.line m).draw = some a →
        (u.line m).fig.pumpRate = if (s.tank a).level = 0 then 0 else (s.line m).settings.crate) ∧
      u.plantHold = s.plantHold.place 4 ⟨.siteClear, s.clock, none, none, none⟩ ∧
      u = { s with lines := u.lines, loop := .closed, plantHold := u.plantHold }) ∧
    (s.loop = .closed → exec .siteStopClose s = .next s) ∧
    ((s.line n).key = .remote → ∃ u v : State, exec (.keyToLocal n) s = .next v ∧
      u.SettledIf ((s.line n).circ.running = true ∨
        (((s.line n).state = .injecting ∨ (s.line n).state = .armed) ∧ ∃ a, n ∈ (s.tank a).startQueue)) v ∧
      (u.line n).key = .locl ∧
      (u.line n).circ.running = false ∧
      ((s.line n).state = .injecting ∨ (s.line n).state = .armed →
        (u.line n).state = .paused ∧ (u.line n).pauseCause = some .locl ∧ (u.line n).fig.pumpRate = 0 ∧
        (∀ a, n ∉ (u.tank a).startQueue) ∧
        u.lineHolds[n] = (s.lineHolds[n].place 2 (s.ownEvent n .paused (some (.cause .locl)))).place 2
          (s.ownEvent n .key (some (.key .locl)))) ∧
      ((s.line n).state ≠ .injecting → (s.line n).state ≠ .armed →
        (u.line n).state = (s.line n).state ∧ (u.line n).stateTicks = (s.line n).stateTicks ∧
        u.lineHolds[n] = s.lineHolds[n].place 2 (s.ownEvent n .key (some (.key .locl)))) ∧
      ((s.line n).state = .priming ∨ (s.line n).state = .washing → (u.line n).fig.pumpRate = 0) ∧
      (u.line n).circ.age = (s.line n).circ.age ∧ (∀ m, m ≠ n → u.line m = s.line m) ∧
      u = { s with lines := u.lines, lineHolds := u.lineHolds, tankA := u.tankA, tankB := u.tankB }) ∧
    ((s.line n).key = .locl → exec (.keyToLocal n) s = .next s) ∧
    ((s.line n).key = .locl → ∃ u : State, exec (.keyToRemote n) s = .next u ∧ u.line n = { s.line n with key := .remote } ∧
      u.lineHolds[n] = s.lineHolds[n].place 2 (s.ownEvent n .key (some (.key .remote))) ∧ s.OnlyLine u n) ∧
    ((s.line n).key = .remote → exec (.keyToRemote n) s = .next s)

/-! ## Line samples -/

/-- A sample event of a line: each current is scaled, held and counted, the pulse window and the flow follow the pulses, the
strokes are totalled (R1 to R4, R7, R9, R10, R12); a tare run in progress takes a good sample's untared value into its sum and
its count, changes no offset and no pressure handed on, and ends on an out-of-range sample (R14, R16); no other line's inputs
change. -/
def Obligations.SamplesUpdateTheInputs : Prop :=
  ∀ (n : LineId) (x : Sample) (s : State),
    let i := (s.line n).inputs
    let t := (s.line n).settings
    let good : Nat → Prop := fun current => 3600 ≤ current ∧ current ≤ 20800
    let scaled : Nat → Nat → Nat := fun span current =>
      if current < 4000 then 0 else if current ≤ 20000 then (current - 4000) * span / 16000 else span
    let channel : Nat → Nat → Channel → Channel := fun span current c =>
      if 3600 ≤ current ∧ current ≤ 20800 then ⟨scaled span current, false, 0⟩ else ⟨c.value, true, min 30 (c.faults + 1)⟩
    let window := i.window.drop 1 ++ [x.pulses]
    let leaves := fun tare : Option TareRun => ∃ u : State, exec (.lineSampleEvent n x) s = .next u ∧
      (u.line n).inputs =
        ⟨channel t.cspan x.collar i.collar, channel t.pspan x.packer i.packer, i.tareOffset, i.tareOffset, window,
          min 2000 (window.sum * t.pulse * 3 / 5), min 4000000000 (i.strokes + x.strokes), tare⟩ ∧
      s.pcOf n x = (u.line n).inputs.collar.value - i.tareOffset ∧ s.packerOf n x = (u.line n).inputs.packer.value ∧
      (∀ m, m ≠ n → (u.line m).inputs = (s.line m).inputs)
    (i.tare = none → leaves none) ∧
    (∀ k sum, i.tare = some ⟨k, sum⟩ → (s.line n).state = .dry ∨ (s.line n).state = .primed → s.AgeCalm n →
      (good x.collar → k < 19 → leaves (some ⟨k + 1, sum + scaled t.cspan x.collar⟩)) ∧ (¬good x.collar → leaves none))

/-- SENSOR: on a line at rest the events come to the hold, the collar input's first (R4). The action for SENSOR on the line
concerned: PAUSE pauses an ARMED line with cause SENSOR, GROUP and ALL pause it with every line in INJECTING or ARMED that draws
from its agitator, or with all of them, and END ends the started stage of a PAUSED line with reason PROTECT and hands its result
over (R34, R35, R147, R149, R150). On an INJECTING line whose computation ends no stage: the events, and PAUSE, GROUP and ALL stop
the line with cause SENSOR, ALL every line in INJECTING or ARMED too, and END ends the stage with the figures of that sample
(R4, R32, R35, R149, R150, R151). That the action follows the computation of the same sample is the model's reading
(notes/assumptions/10.md), and that END uses SHUTIN as it then stands is its choice (notes/assumptions/33.md). -/
def Obligations.SensorsAreRaised : Prop :=
  ∀ (n : LineId) (x : Sample) (s : State),
    let l := s.line n
    let raises : Nat → Nat → Channel → Prop := fun span current c => (current < 3600 ∨ 20800 < current) ∧ c.faults = 29
    let collar := raises l.settings.cspan x.collar l.inputs.collar
    let packer := raises l.settings.pspan x.packer l.inputs.packer
    let first := s.ownEvent n .sensor (some (.num 1)) (some (.num x.collar))
    let second := s.ownEvent n .sensor (some (.num 2)) (some (.num x.packer))
    let stoppable := fun m => (s.line m).state = .injecting ∨ (s.line m).state = .armed
    let stopped := fun (u : State) m => (u.line m).state = .paused ∧ (u.line m).pauseCause = some .sensor ∧
      ∀ a, m ∉ (u.tank a).startQueue
    l.inputs.tare = none → s.AgeCalm n → (collar ∨ packer) →
    (l.state = .dry ∨ l.state = .fouled → s.Unqueued n → ∃ u : State, exec (.sensor n x) s = .next u ∧
      u.line n = { s.sampled n x with fig := { l.fig with pumpRate := 0 } } ∧
      (collar → ¬packer → u.lineHolds[n] = s.lineHolds[n].place 2 first) ∧
      (¬collar → packer → u.lineHolds[n] = s.lineHolds[n].place 2 second) ∧
      (collar → packer → u.lineHolds[n] = (s.lineHolds[n].place 2 first).place 2 second)) ∧
    (l.state = .armed → s.SeatCalm n x → l.pendingMix = none → ∃ u : State, exec (.sensor n x) s = .next u ∧
      (s.responses.sensor = .pause → stopped u n ∧ (u.line n).fig.pumpRate = 0) ∧
      (s.responses.sensor = .group → l.draw ≠ none →
        stopped u n ∧ (∀ m, stoppable m → (s.line m).draw = l.draw → stopped u m) ∧
        (¬(collar ∧ packer) → ∀ m, stoppable m → (s.line m).draw ≠ l.draw →
          (u.line m).state = .injecting ∨ (u.line m).state = .armed)) ∧
      (s.responses.sensor = .all → ∀ m, stoppable m → stopped u m)) ∧
    (∀ tb, l.state = .injecting → s.stageTables l = some tb →
      let w := (s.measure n x).compute tb (s.pcOf n x) x.pulses ((s.measure n x).line n)
      w.ended = none → (∀ a, l.draw = some a → w.added < (s.tank a).level) → l.latch.packerCount < 9 →
      (∀ age, l.circ.age = some age → (age + 1) / 10 < tb.drawn.settime * 60) →
      s.responses.overp ≠ .endStage → s.responses.drop ≠ .endStage → s.responses.surge ≠ .endStage →
      ∃ u : State, exec (.sensor n x) s = .next u ∧
        (collar → first ∈ u.lineHolds[n].entries ∨ u.lineHolds[n].overflow = true) ∧
        (packer → second ∈ u.lineHolds[n].entries ∨ u.lineHolds[n].overflow = true) ∧
        (s.responses.sensor = .pause ∨ s.responses.sensor = .all ∨ (s.responses.sensor = .group ∧ l.draw ≠ none) →
          stopped u n ∧ (u.line n).fig.pumpRate = 0 ∧ (u.line n).fig.refusalCount = 0 ∧
          (u.line n).pauses = min 255 (l.pauses + 1)) ∧
        (s.responses.sensor = .group → l.draw ≠ none → l.pendingMix = none → w.thicken = none →
          ∀ m, stoppable m → (s.line m).pendingMix = none → (s.line m).draw = l.draw → stopped u m) ∧
        (s.responses.sensor = .all → ∀ m, stoppable m → stopped u m) ∧
        (∀ b c, s.responses.sensor = .endStage → l.bound = some b → l.startClock = some c → s.Unqueued n →
          let f := w.line.fig
          let r : StageResult := ⟨b.hole, b.stage, n, c, s.clock, .protect, f.volume, f.lastTake, f.maxPe, f.lastPe,
            f.lastIntensity, f.mixList, (u.line n).mixChanges, l.pauses, l.regrout, l.heaveMax⟩
          (u.line n).state = (if l.settings.shutin = 0 then .decaying else .shutIn) ∧ (u.line n).endReason = some .protect ∧
          (s.results.length < 16 → u.results = s.results ++ [r]) ∧
          (16 ≤ s.results.length → u.results = s.results ∧ (u.line n).pendingResult = some r))) ∧
    (∀ b c, l.state = .paused → l.bound = some b → l.startClock = some c → s.responses.sensor = .endStage → s.SeatCalm n x →
      s.Unqueued n → ∃ u : State, exec (.sensor n x) s = .next u ∧
        let r : StageResult := ⟨b.hole, b.stage, n, c, s.clock, .protect, l.fig.volume, l.fig.lastTake, l.fig.maxPe, l.fig.lastPe,
          l.fig.lastIntensity, l.fig.mixList, l.mixChanges, l.pauses, l.regrout, l.heaveMax⟩
        (u.line n).state = (if l.settings.shutin = 0 then .decaying else .shutIn) ∧ (u.line n).endReason = some .protect ∧
        (u.line n).envelope = none ∧ (u.line n).window = none ∧ (u.line n).pendingMix = none ∧
        (s.results.length < 16 → u.results = s.results ++ [r]) ∧
        (16 ≤ s.results.length → u.results = s.results ∧ (u.line n).pendingResult = some r))

/-- TARE DONE: on the twentieth good sample of a run its mean becomes the tare offset and TARE DONE is raised, or TARE FAIL where
the mean is above 300 kPa; Pc of this sample is still worked out with the old offset (R14, R15). The samples before it raise
nothing and leave the offset; an out-of-range sample ends the run with TARE FAIL and no value (R14, R16), and so does fouling,
the run's TARE FAIL before FOULED (R16, R163). -/
def Obligations.TareRunsComplete : Prop :=
  ∀ (n : LineId) (x : Sample) (k sum : Nat) (s : State),
    let l := s.line n
    let good := 3600 ≤ x.collar ∧ x.collar ≤ 20800
    let v := if x.collar < 4000 then 0 else if x.collar ≤ 20000 then (x.collar - 4000) * l.settings.cspan / 16000 else l.settings.cspan
    let mean := (sum + v) / 20
    let fail := s.ownEvent n .tareFail
    (l.state = .dry ∨ l.state = .primed) → l.inputs.tare = some ⟨k, sum⟩ → l.sensorsRaised x = 0 → s.Unqueued n →
    (s.AgeCalm n →
      (good → k = 19 → ∃ u : State, exec (.tareDone n x) s = .next u ∧
        (u.line n).inputs.tare = none ∧
        (u.line n).inputs.tareOffset = (if mean ≤ 300 then mean else l.inputs.tareOffset) ∧
        u.lineHolds[n] = s.lineHolds[n].place 2 (s.ownEvent n (if mean ≤ 300 then .tareDone else .tareFail) (some (.num mean))) ∧
        s.pcOf n x = v - l.inputs.tareOffset ∧
        u.line n = { s.sampled n x with fig := { l.fig with pumpRate := 0 } }) ∧
      (good → k < 19 → ∃ u : State, exec (.lineSampleEvent n x) s = .next u ∧
        (u.line n).inputs.tare = some ⟨k + 1, sum + v⟩ ∧ (u.line n).inputs.tareOffset = l.inputs.tareOffset ∧
        s.pcOf n x = v - l.inputs.tareOffset ∧
        u.line n = { s.sampled n x with fig := { l.fig with pumpRate := 0 } } ∧
        u.lineHolds[n] = s.lineHolds[n] ∧ s.OnlyLine u n) ∧
      (¬good → ∃ u : State, exec (.lineSampleEvent n x) s = .next u ∧
        (u.line n).inputs.tare = none ∧ (u.line n).inputs.tareOffset = l.inputs.tareOffset ∧
        u.line n = { s.sampled n x with fig := { l.fig with pumpRate := 0 } } ∧
        u.lineHolds[n] = s.lineHolds[n].place 2 fail)) ∧
    (∀ age lim, good → k < 19 → l.key = .remote → l.circ.running = false → l.circ.age = some age →
      s.ageLimit l = some lim → lim ≤ min 144000 (age + 1) / 10 → ∃ u : State, exec (.fouled n x) s = .next u ∧
        (u.line n).state = .fouled ∧ (u.line n).inputs.tare = none ∧ (u.line n).inputs.tareOffset = l.inputs.tareOffset ∧
        u.lineHolds[n] = (s.lineHolds[n].place 2 fail).place 2
          (s.ownEvent n .fouled (some (.state l.state)) (l.columnMix.map fun c => .num c)))

/-- PRIMED, SEATED and SEAT FAIL: the ends of PRIMING and SEATING (R24, R26, R27, R132). That the grout age is still 0 after the
whole sample that completes priming is the model's reading (notes/assumptions/12.md). -/
def Obligations.PrimingAndSeatingEnd : Prop :=
  ∀ (n : LineId) (x : Sample) (s : State), s.Calm n x →
    let l := s.line n
    (∀ a, l.state = .priming → l.circ.age = none → s.loop = .closed → l.key = .remote → l.draw = some a → 0 < (s.tank a).level →
      l.settings.primet ≤ s.timerAfter n → 0 < s.plant.circi →
      (∀ k m, (s.tank a).mix = some k → s.mixEntry k = some m → 0 < m.settime) →
      ∃ u : State, exec (.primed n x) s = .next u ∧
        u.line n = { (s.sampled n x).enter .primed with
          columnMix := (s.tank a).mix
          drawMix := (s.tank a).mix
          front := 0
          circ := ⟨some 0, false, l.circ.runCount, false⟩ } ∧
        u.lineHolds[n] = s.lineHolds[n].place 2 (s.ownEvent n .primed ((s.tank a).mix.map fun k => .num k)) ∧ s.OnlyLine u n) ∧
    (∀ r, l.state = .seating → l.condCount = 19 → l.settings.seatp ≤ s.packerOf n x → 0 < l.settings.comm →
      s.boundRecord l = some r →
      ∃ u : State, exec (.seated n x) s = .next u ∧
        (u.line n).SameButChecks { (s.sampled n x).enter .seated with
          watched := r.gauges
          heaveMax := if r.gauges = [] then none else some 0
          seatRef := s.pcOf n x } ∧
        (∀ g, g ∈ r.gauges → (∀ m, g ∉ (s.line m).watched) → (s.gauge g).state = .idle →
          u.gauge g = { s.gauge g with state := .watch, baseline := (s.gauge g).heave, maximum := 0 }) ∧
        (∀ g, g ∉ r.gauges ∨ (∃ m, g ∈ (s.line m).watched) ∨ (s.gauge g).state ≠ .idle → u.gauge g = s.gauge g) ∧
        u.lineHolds[n] = s.lineHolds[n].place 2 (s.ownEvent n .seated (some (.num (s.packerOf n x)))) ∧
        (∀ m, m ≠ n → u.line m = s.line m) ∧ (∀ m : LineId, m ≠ n → u.lineHolds[m] = s.lineHolds[m]) ∧
        u = { s with lines := u.lines, lineHolds := u.lineHolds, gauges := u.gauges }) ∧
    (∀ b, l.state = .seating → (s.packerOf n x < l.settings.seatp ∨ l.condCount < 19) → 60 ≤ s.timerAfter n →
      l.bound = some b → l.endReason = none →
      ∃ u : State, exec (.seatFail n x) s = .next u ∧
        u.line n = { (s.sampled n x).enter .primed with bound := none } ∧
        u.book = s.book.map (fun q => if q.hole = b.hole ∧ q.stage = b.stage then { q with status := .opened } else q) ∧
        u.lineHolds[n] = s.lineHolds[n].place 2 (s.ownEvent n .seatFail (some (.num (s.packerOf n x)))) ∧
        (∀ m, m ≠ n → u.line m = s.line m) ∧ (∀ m : LineId, m ≠ n → u.lineHolds[m] = s.lineHolds[m]) ∧
        u = { s with lines := u.lines, lineHolds := u.lineHolds, book := u.book })

/-- SHUT-IN END, DECAYED and DECAY SLOW: the ends of SHUT-IN and DECAYING. Where no release flag is set the binding is released:
its record becomes DONE and its hole's mark for the stage is set, every other mark as before, or the record returns to OPEN with
its interrupted count raised and no mark changes (R36, R37, R38, R41, R119, R125). -/
def Obligations.ShutInAndDecayEnd : Prop :=
  ∀ (n : LineId) (x : Sample) (s : State), s.Calm n x →
    let l := s.line n
    (l.state = .shutIn → l.settings.shutin ≤ s.timerAfter n → ∃ u : State, exec (.shutInEnd n x) s = .next u ∧
      u.line n = (s.sampled n x).enter .decaying ∧ u.lineHolds[n] = s.lineHolds[n] ∧ s.OnlyLine u n) ∧
    (l.state = .decaying → l.condCount = 9 → s.pcOf n x ≤ l.settings.relp → l.releaseFlag = true →
      ∃ u : State, exec (.decayed n x) s = .next u ∧ u.line n = (s.sampled n x).enter .releasing ∧
        u.lineHolds[n] = s.lineHolds[n].place 2 (s.ownEvent n .decayed) ∧ s.OnlyLine u n) ∧
    (∀ b r, l.state = .decaying → l.condCount = 9 → s.pcOf n x ≤ l.settings.relp → l.releaseFlag = false →
      l.bound = some b → l.endReason = some r → s.SeatCalm n x →
      ∃ u : State, exec (.decayed n x) s = .next u ∧
        (u.line n).SameButChecks { (s.sampled n x).enter .seated with bound := none, endReason := none } ∧
        s.Releases u b (some r) ∧
        u.lineHolds[n] = s.lineHolds[n].place 2 (s.ownEvent n .decayed) ∧
        (∀ m, m ≠ n → u.line m = s.line m) ∧ (∀ m : LineId, m ≠ n → u.lineHolds[m] = s.lineHolds[m]) ∧
        u = { s with lines := u.lines, lineHolds := u.lineHolds, book := u.book, holes := u.holes }) ∧
    (l.state = .decaying → (l.settings.relp < s.pcOf n x ∨ l.condCount < 9) → 300 ≤ s.timerAfter n → l.slowMark = false →
      ∃ u : State, exec (.decaySlow n x) s = .next u ∧
        u.line n = { s.sampled n x with
          stateTicks := min 18000 (l.stateTicks + 1)
          condCount := if s.pcOf n x ≤ l.settings.relp then l.condCount + 1 else 0
          slowMark := true
          fig := { l.fig with pumpRate := 0 } } ∧
        u.lineHolds[n] = s.lineHolds[n].place 2 (s.ownEvent n .decaySlow (some (.num (s.pcOf n x)))) ∧ s.OnlyLine u n)

/-- RELEASED, DEFLATE SLOW and WASHED: the ends of RELEASING and WASHING. The line leaves the watcher set of every gauge it
watches, and a gauge that loses its last watcher in WATCH or WARN becomes IDLE (R40, R44, R132). A binding is released, with what
its end reason does to the record and the mark (R41, R119, R125). -/
def Obligations.ReleaseAndWashEnd : Prop :=
  ∀ (n : LineId) (x : Sample) (s : State), s.Calm n x →
    let l := s.line n
    let left := fun u : State => ∀ g,
      (g ∈ l.watched → (∀ m, m ≠ n → g ∉ (s.line m).watched) → ((s.gauge g).state = .watch ∨ (s.gauge g).state = .warn) →
        u.gauge g = { s.gauge g with state := .idle }) ∧
      (g ∉ l.watched ∨ (∃ m, m ≠ n ∧ g ∈ (s.line m).watched) ∨ ((s.gauge g).state ≠ .watch ∧ (s.gauge g).state ≠ .warn) →
        u.gauge g = s.gauge g)
    let others := fun u : State => (∀ m, m ≠ n → u.line m = s.line m) ∧ ∀ m : LineId, m ≠ n → u.lineHolds[m] = s.lineHolds[m]
    (l.state = .releasing → l.condCount = 9 → s.packerOf n x ≤ 100 →
      ∃ u : State, exec (.released n x) s = .next u ∧
        u.line n = { (s.sampled n x).enter .primed with
          watched := []
          bound := none
          endReason := if l.bound = none then l.endReason else none
          releaseFlag := false } ∧
        left u ∧ others u ∧ u.lineHolds[n] = s.lineHolds[n].place 2 (s.ownEvent n .released) ∧
        (l.bound = none → u.book = s.book ∧ u.holes = s.holes) ∧
        (∀ b, l.bound = some b → s.Releases u b l.endReason) ∧
        u = { s with lines := u.lines, lineHolds := u.lineHolds, gauges := u.gauges, book := u.book, holes := u.holes }) ∧
    (l.state = .releasing → (100 < s.packerOf n x ∨ l.condCount < 9) → 60 ≤ s.timerAfter n → l.slowMark = false →
      ∃ u : State, exec (.deflateSlow n x) s = .next u ∧
        u.line n = { s.sampled n x with
          stateTicks := min 18000 (l.stateTicks + 1)
          condCount := if s.packerOf n x ≤ 100 then l.condCount + 1 else 0
          slowMark := true
          fig := { l.fig with pumpRate := 0 } } ∧
        u.lineHolds[n] = s.lineHolds[n].place 2 (s.ownEvent n .deflateSlow (some (.num (s.packerOf n x)))) ∧ s.OnlyLine u n) ∧
    (l.state = .washing → s.loop = .closed → l.key = .remote → l.settings.washt ≤ s.timerAfter n →
      ∃ u : State, exec (.washed n x) s = .next u ∧ u.line n = { (s.sampled n x).enter .dry with watched := [] } ∧
        left u ∧ others u ∧ u.lineHolds[n] = s.lineHolds[n].place 2 (s.ownEvent n .washed) ∧
        u = { s with lines := u.lines, lineHolds := u.lineHolds, gauges := u.gauges })

/-! ## Injection -/

/-- The figures that one sample of an INJECTING line leaves: volume, effective pressure, take, intensity, allowed pressure and
the stage maximum (R49, R52 to R57), point index, dwell count and target (R58 to R61), and the refusal count, which a pause
makes 0 (R64, R48). The mix volume, the remaining front, and at its arrival the column mix and the stage mix list; a switchover
of the sample's settling makes the front HOSE and the mix volume 0 (R49, R50, R107). The added volume leaves the draw agitator
and no other; a report that finds or leaves the level at 0 pauses the other drawers in INJECTING or ARMED, and the line itself
after its sample, with cause STARVED, and raises AGITATOR EMPTY where the level was above 0 (R49, R95, R96). That another
INJECTING drawer reports no volume before its pause is the model's choice (notes/assumptions/35.md). That the line's own STARVED
request goes before the actions of the sample's detections is the model's reading (notes/assumptions/10.md). -/
def Obligations.InjectionFigures : Prop :=
  ∀ (n : LineId) (x : Sample) (tb : StageTables) (s : State),
    let l := s.line n
    l.state = .injecting → l.inputs.tare = none → s.stageTables l = some tb → tb.record.top < tb.record.bottom →
    ∃ u : State, exec (.lineSampleEvent n x) s = .next u ∧
      let m := u.line n
      let f := m.fig
      let q := m.inputs.flow
      let added := x.pulses * l.settings.pulse
      let volume := min 4000000000 (l.fig.volume + added)
      let arrives := 0 < l.front ∧ l.front ≤ added
      let column := if arrives then tb.drawn else tb.column
      let depth := (tb.record.top + tb.record.bottom) / 2
      let len := tb.record.bottom - tb.record.top
      let head := (column.density * depth * 981 + 500000) / 1000000
      let loss := column.friction * q / 100
      f.volume = volume ∧
      (f.lastPe : Int) = max 0 (min 12000 ((s.pcOf n x : Int) + head - loss)) ∧
      f.maxPe = max l.fig.maxPe f.lastPe ∧
      f.lastTake = min 65535 (volume / (len * 10)) ∧
      f.lastIntensity = min 65535 (f.lastPe * volume / (len * 10000)) ∧
      f.lastAllowed = (if volume = 0 then tb.envelope.pmax
        else min tb.envelope.pmax (tb.envelope.ginmax * len * 10000 / volume)) ∧
      (let frozen := ∃ g ∈ l.watched, (s.gauge g).state = .warn ∨ (s.gauge g).state = .alarm ∨ (s.gauge g).state = .fault
       let dwell := if frozen then l.fig.dwellCount else min 36000 (l.fig.dwellCount + 1)
       let steps := ¬frozen ∧ l.fig.pointIndex + 1 < tb.window.count ∧
         (s.pointAt tb.window l.fig.pointIndex).dwell ≤ dwell / 10
       f.pointIndex = (if steps then l.fig.pointIndex + 1 else l.fig.pointIndex) ∧
       f.dwellCount = (if steps then 0 else dwell) ∧
       f.lastTarget = min (s.pointAt tb.window f.pointIndex).target f.lastAllowed) ∧
      (let refusing := q ≤ tb.envelope.rflow ∧ (f.lastTarget : Int) - tb.envelope.band ≤ f.lastPe
       (m.state = .injecting → f.refusalCount = if refusing then min 36000 (l.fig.refusalCount + 1) else 0) ∧
       (m.state = .paused → f.refusalCount = 0)) ∧
      (m.state ≠ .fouled → m.columnMix = if arrives then l.drawMix else l.columnMix) ∧
      (∀ k, l.drawMix = some k → f.mixList = if arrives ∧ l.fig.mixList.getLast? ≠ some k then
        (if l.fig.mixList.length < 8 then l.fig.mixList ++ [k] else l.fig.mixList.dropLast ++ [k]) else l.fig.mixList) ∧
      (m.draw = l.draw → f.mixVolume = min 4000000000 (l.fig.mixVolume + added) ∧ m.front = l.front - added) ∧
      (m.draw ≠ l.draw → m.state = .fouled ∨ (f.mixVolume = 0 ∧ m.front = l.settings.hose ∧ m.pendingMix = none ∧
        ∃ a, l.draw = some a ∧ m.draw = some a.other)) ∧
      (l.draw = none → ∀ a, (u.tank a).level = (s.tank a).level) ∧
      (∀ a, l.draw = some a →
        (u.tank a).level = (s.tank a).level - added ∧ (u.tank a.other).level = (s.tank a.other).level ∧
        (0 < added → (s.tank a).level ≤ added →
          (0 < (s.tank a).level →
            ⟨.agitatorEmpty, s.clock, some (.tank a), (s.tank a).mix.map fun k : Nat => .num k, some (.lines (s.drawers a))⟩ ∈
              u.plantHold.entries ∨ (4 ≤ s.plantHold.entries.length ∧ u.plantHold.overflow = true)) ∧
          (s.Unqueued n → m.state ≠ .injecting ∧ (m.state = .paused → m.pauseCause = some .starved)) ∧
          ∀ j, j ≠ n → (s.line j).draw = some a → (s.line j).state = .injecting ∨ (s.line j).state = .armed →
            (u.line j).state = .paused ∧ (u.line j).pauseCause = some .starved ∧
            ((s.line j).circ.running = false → (u.line j).fig.pumpRate = 0) ∧
            ∀ b, j ∉ (u.tank b).startQueue))

/-- The pump rate of a line that is still INJECTING after its sample: 0 on a tripped sample, else the law of R67 under the warn
cap of R68, both from the rate at the end of the line's previous computation sample, the newest entry of the rate record (R69);
the target is the lower of the profile's and the allowed pressure (R61, R62, R67, R68). The rate joins the rate record as its
newest entry, the oldest leaving; where it differs by 50 or more from that oldest entry, a line with RATE in HOLDON begins a
hold-off, and else the hold-off count goes down by 1 (R69, R143). OVERPRESSURE with Pe and the trip limit on the first tripped
sample, whatever state the sample leaves, and on no other (R63). -/
def Obligations.PumpRateFollowsTheLaw : Prop :=
  ∀ (n : LineId) (x : Sample) (tb : StageTables) (s : State),
    let l := s.line n
    l.state = .injecting → l.inputs.tare = none → s.stageTables l = some tb → s.loop = .closed → s.Unqueued n →
    l.circ.running = false →
    ∃ u : State, exec (.lineSampleEvent n x) s = .next u ∧
      (let limit := tb.envelope.pmax + tb.envelope.pmax / 10
       let pe := (u.line n).fig.lastPe
       let kept := fun h : Hold => h.entries.filter fun e => e.kind == .overpressure
       (limit < pe → l.fig.tripMark = false → l.sensorsRaised x = 0 →
         if s.lineHolds[n].entries.length < 2 then
           s.ownEvent n .overpressure (some (.num pe)) (some (.num limit)) ∈ u.lineHolds[n].entries
         else u.lineHolds[n].overflow = true) ∧
       (pe ≤ limit ∨ l.fig.tripMark = true → kept u.lineHolds[n] = kept s.lineHolds[n])) ∧
      ((u.line n).state = .injecting →
      let f := (u.line n).fig
      let k := (u.line n).latch
      let oldest := l.fig.rateRecord.headD 0
      let moved := oldest + 50 ≤ f.pumpRate ∨ f.pumpRate + 50 ≤ oldest
      let change := max (-(l.settings.slew : Int)) (min l.settings.slew
        ((((f.lastTarget : Int) - f.lastPe) * l.settings.gain).tdiv 256))
      let previous := l.fig.rateRecord.getLast?.getD 0
      let law := max 0 (min (l.settings.rmax : Int) ((previous : Int) + change))
      let warned := ∃ g ∈ l.watched, (s.gauge g).state = .warn ∨ (s.gauge g).state = .fault
      f.lastTarget = min (s.pointAt tb.window f.pointIndex).target f.lastAllowed ∧
      f.rateRecord = l.fig.rateRecord.drop 1 ++ [f.pumpRate] ∧
      (l.settings.holdon.rate = true → moved → k.holdOff = 20 ∧
        (∀ r, l.latch.reference = some r → k.reference = some r ∧ k.period = l.latch.period)) ∧
      (l.settings.holdon.step = false → l.settings.holdon.switch = false → (l.settings.holdon.rate = false ∨ ¬moved) →
        k.holdOff = l.latch.holdOff - 1) ∧
      (tb.envelope.pmax + tb.envelope.pmax / 10 < f.lastPe →
        f.tripMark = true ∧ f.pumpRate = 0 ∧ f.warnCap = l.fig.warnCap) ∧
      (f.lastPe ≤ tb.envelope.pmax + tb.envelope.pmax / 10 → f.tripMark = false ∧
        (¬warned → f.warnCap = none ∧ (f.pumpRate : Int) = law) ∧
        (warned → ∃ cap, cap = l.fig.warnCap.getD previous ∧ f.warnCap = some cap ∧
          (f.pumpRate : Int) = min (cap : Int) law)))

/-- PROFILE STEP: a step of the profile (R58, R59). The stage end: by VOLUME, INTENSITY or REFUSAL, the first that holds, the refusal
count rising by 1 where the flow is at most the refusal flow and Pe at least the target less the band, and being else 0, with
its result handed over (R64, R65, R66, R35, R178). Thickening: on a sample that ends no stage, where R71's conditions hold, the next
mix becomes pending, or is switched over to at once, and THICKEN is raised; where they do not, no mix becomes pending (R71,
R72). -/
def Obligations.StepsAndRefusals : Prop :=
  ∀ (n : LineId) (x : Sample) (tb : StageTables) (s : State),
    let l := s.line n
    l.state = .injecting → l.inputs.tare = none → s.stageTables l = some tb →
    let worked := (s.measure n x).computeFigures tb (s.pcOf n x) x.pulses ((s.measure n x).line n)
    let figures := worked.fig
    let volume := tb.envelope.vmax * 10 ≤ figures.lastTake
    let intensity := tb.envelope.ginmax - tb.envelope.ginmax / 50 ≤ figures.lastIntensity
    let refusing := worked.inputs.flow ≤ tb.envelope.rflow ∧ (figures.lastTarget : Int) - tb.envelope.band ≤ figures.lastPe
    let refusals := if refusing then min 36000 (l.fig.refusalCount + 1) else 0
    let refused := tb.envelope.rtime ≤ refusals / 10
    ((∀ g ∈ l.watched, (s.gauge g).state ≠ .warn ∧ (s.gauge g).state ≠ .alarm ∧ (s.gauge g).state ≠ .fault) →
      l.fig.pointIndex + 1 < tb.window.count →
      (s.pointAt tb.window l.fig.pointIndex).dwell ≤ min 36000 (l.fig.dwellCount + 1) / 10 →
      ∃ u : State, exec (.profileStep n x) s = .next u ∧
        (u.line n).fig.pointIndex = l.fig.pointIndex + 1 ∧ (u.line n).fig.dwellCount = 0) ∧
    (∀ b c, l.bound = some b → l.startClock = some c → s.Calm n x → s.Unqueued n →
      (∀ age, l.circ.age = some age → (age + 1) / 10 < tb.drawn.settime * 60) →
      let ends := fun (cmd : Instr) (why : EndReason) => ∃ u : State, exec cmd s = .next u ∧
        let m := u.line n
        let r : StageResult := ⟨b.hole, b.stage, n, c, s.clock, why, m.fig.volume, m.fig.lastTake, m.fig.maxPe,
          m.fig.lastPe, m.fig.lastIntensity, m.fig.mixList, m.mixChanges, m.pauses, m.regrout, m.heaveMax⟩
        m.state = (if l.settings.shutin = 0 then .decaying else .shutIn) ∧ m.endReason = some why ∧
        m.envelope = none ∧ m.window = none ∧ m.pendingMix = none ∧ m.pauseCause = none ∧ m.fig.pumpRate = 0 ∧
        m.fig.lastPe = figures.lastPe ∧ m.fig.lastTake = figures.lastTake ∧ m.fig.lastIntensity = figures.lastIntensity ∧
        m.fig.refusalCount = refusals ∧
        (s.results.length < 16 → u.results = s.results ++ [r]) ∧
        (16 ≤ s.results.length → u.results = s.results ∧ m.pendingResult = some r)
      (volume → ends (.lineSampleEvent n x) .volume) ∧ (¬volume → intensity → ends (.lineSampleEvent n x) .intensity) ∧
      (¬volume → ¬intensity → refused → ends (.refusal n x) .refusal)) ∧
    (¬volume → ¬intensity → ¬refused → l.pendingMix = none → s.Unqueued n →
      let len := tb.record.bottom - tb.record.top
      let due := fun k => worked.columnMix = some k ∧ worked.drawMix = some k ∧ k < 6 ∧ s.mixEntry (k + 1) ≠ none ∧
        tb.envelope.tvol * 10 ≤ figures.mixVolume / (len * 10) ∧ figures.lastPe * 100 < tb.envelope.tpct * figures.lastTarget
      ∃ u : State, exec (.lineSampleEvent n x) s = .next u ∧
        (∀ k, due k →
          (s.ownEvent n .thicken (some (.num (k + 1 : Nat))) ∈ u.lineHolds[n].entries ∨ u.lineHolds[n].overflow = true) ∧
          ((u.line n).state = .injecting ∨ (u.line n).state = .paused →
            (u.line n).pendingMix = some (k + 1) ∨
            ((u.line n).pendingMix = none ∧ (u.line n).drawMix = some (k + 1) ∧ (u.line n).front = l.settings.hose))) ∧
        ((∀ k, ¬due k) → (u.line n).pendingMix = none))

/-- DROP REFERENCE TAKEN, HOLD-OFF END and PACKER LOW: the ends of a reference period and of a hold-off, and the tenth sample of
a low packer on a SEATED line (R142, R143, R145). A STEP is selected with STEP in HOLDON, a RATE, which the sample's rate makes
by differing by 50 or more from the oldest entry of the rate record, with RATE (R59, R69, R143). DROP and SURGE on a tested
sample: the event, the mark, and what each action does to the line (R144, R149, R150). OVERPRESSURE on a first tripped sample:
the event, and what each action does to the line where OVER is in CHECKS; where it is not, the line goes on (R63, R147, R149). GROUP and ALL for PACKER LOW: the lines that they pause (R150). COMMUNICATION on a SEATED
or PAUSED line: the event, the mark, and what each action does to the lines that inject (R146, R149, R150). END uses a line's SHUTIN as it
stands, also before that line's next sample, which is the model's choice (notes/assumptions/33.md). -/
def Obligations.ReferencesAndPackerLow : Prop :=
  ∀ (n : LineId) (x : Sample) (tb : StageTables) (s : State), s.Unqueued n →
    let l := s.line n
    let c := (s.measure n x).compute tb (s.pcOf n x) x.pulses ((s.measure n x).line n)
    let frozen := ∃ g ∈ l.watched, (s.gauge g).state = .warn ∨ (s.gauge g).state = .alarm ∨ (s.gauge g).state = .fault
    let stepped := ¬frozen ∧ l.fig.pointIndex + 1 < tb.window.count ∧
      (s.pointAt tb.window l.fig.pointIndex).dwell ≤ min 36000 (l.fig.dwellCount + 1) / 10
    let oldest := l.fig.rateRecord.headD 0
    let rate := c.line.fig.pumpRate
    let moved := c.ended = none ∧ (oldest + 50 ≤ rate ∨ rate + 50 ≤ oldest)
    let selected := (l.settings.holdon.step = true ∧ stepped) ∨ (l.settings.holdon.rate = true ∧ moved)
    let drop := fun r => l.settings.checks.drop = true ∧ l.latch.dropMark = false ∧ l.settings.dfloor ≤ r ∧
      c.pe + l.settings.drop ≤ r
    let surge := fun r => l.settings.checks.surge = true ∧ l.latch.surgeMark = false ∧ r + l.settings.surge ≤ c.pe
    let limit := tb.envelope.pmax + tb.envelope.pmax / 10
    let acts := fun (u : State) (k : EventKind) (second : Nat) (act : Action) =>
      (s.ownEvent n k (some (.num c.pe)) (some (.num second)) ∈ u.lineHolds[n].entries ∨ u.lineHolds[n].overflow = true) ∧
      (act = .report → (u.line n).state = .injecting) ∧
      (act = .pause ∨ act = .all ∨ (act = .group ∧ l.draw ≠ none) →
        (u.line n).state = .paused ∧ (u.line n).pauseCause = some .protect) ∧
      (act = .endStage → (u.line n).state = (if l.settings.shutin = 0 then .decaying else .shutIn) ∧
        (u.line n).endReason = some .protect)
    let stoppable := fun m => (s.line m).state = .injecting ∨ (s.line m).state = .armed
    let paused := fun (u : State) (these : LineId → Prop) =>
      (∀ m, these m → (u.line m).state = .paused ∧ (u.line m).pauseCause = some .protect ∧ ∀ a, m ∉ (u.tank a).startQueue) ∧
      ∀ m, ¬these m → (s.line m).state = .injecting → (u.line m).state = .injecting
    (l.state = .injecting → l.inputs.tare = none → s.stageTables l = some tb → l.latch.reference ≠ none → ¬selected →
      (l.latch.holdOff = 0 → l.latch.period = 9 → ∃ u : State, exec (.dropReferenceTaken n x) s = .next u ∧
        (u.line n).latch.reference = some (u.line n).fig.lastPe ∧ (u.line n).latch.period = 0 ∧
        (u.line n).latch.dropMark = false ∧ (u.line n).latch.surgeMark = false) ∧
      (l.latch.holdOff = 1 → ∃ u : State, exec (.holdOffEnd n x) s = .next u ∧
        (u.line n).latch.reference = some (u.line n).fig.lastPe ∧ (u.line n).latch.period = 0 ∧
        (u.line n).latch.dropMark = false ∧ (u.line n).latch.surgeMark = false ∧
        (l.pendingMix = none → c.thicken = none → (u.line n).latch.holdOff = 0))) ∧
    (l.state = .seated → s.Calm n x → l.settings.checks.packer = true → l.latch.packerCount = 9 → l.latch.packerMark = false →
      (s.packerOf n x : Int) < (l.settings.seatp : Int) - l.settings.pmargin →
      s.pcOf n x < l.seatRef + l.settings.comm → ∃ u : State, exec (.packerLow n x) s = .next u ∧
        (u.line n).SameButChecks { s.sampled n x with fig := { l.fig with pumpRate := 0 } } ∧
        (u.line n).latch.packerCount = 10 ∧ (u.line n).latch.packerMark = true ∧
        u.lineHolds[n] = s.lineHolds[n].place 2 (s.ownEvent n .packerLow (some (.num (s.packerOf n x)))
          (some (.num ((l.settings.seatp : Int) - l.settings.pmargin)))) ∧
        (s.responses.packer = .group → l.draw ≠ none → paused u (fun m => stoppable m ∧ (s.line m).draw = l.draw)) ∧
        (s.responses.packer = .all → paused u stoppable) ∧
        (s.responses.packer = .report → s.OnlyLine u n)) ∧
    (l.state = .injecting → s.stageTables l = some tb → s.Calm n x → l.latch.packerCount < 9 → c.ended = none → c.tripped = false →
      (∀ a, l.draw = some a → c.added < (s.tank a).level) → c.thicken = none →
      (∀ age, l.circ.age = some age → (age + 1) / 10 < tb.drawn.settime * 60) →
      ∀ r, l.latch.reference = some r → l.latch.holdOff = 0 → ¬selected →
      ∃ u : State, exec (.lineSampleEvent n x) s = .next u ∧
        (drop r → ¬surge r → acts u .drop r s.responses.drop ∧ (l.latch.period < 9 → (u.line n).latch.dropMark = true)) ∧
        (surge r → ¬drop r → acts u .surge r s.responses.surge ∧ (l.latch.period < 9 → (u.line n).latch.surgeMark = true)) ∧
        (¬drop r → ¬surge r → (u.line n).state = .injecting)) ∧
    (l.state = .injecting → s.stageTables l = some tb → s.Calm n x → l.latch.packerCount < 9 → c.ended = none →
      l.fig.tripMark = false → limit < c.pe → (∀ a, l.draw = some a → c.added < (s.tank a).level) → c.thicken = none →
      (∀ age, l.circ.age = some age → (age + 1) / 10 < tb.drawn.settime * 60) →
      (∀ r, l.latch.reference = some r → l.latch.holdOff = 0 → ¬selected → ¬drop r ∧ ¬surge r) →
      ∃ u : State, exec (.lineSampleEvent n x) s = .next u ∧
        (u.line n).fig.tripMark = true ∧ (u.line n).fig.pumpRate = 0 ∧
        (l.settings.checks.overp = true → acts u .overpressure limit s.responses.overp) ∧
        (l.settings.checks.overp = false → acts u .overpressure limit .report)) ∧
    (l.state = .seated ∨ l.state = .paused → s.Calm n x → l.latch.packerCount < 9 → l.settings.checks.comm = true →
      l.latch.commMark = false → l.pendingMix = none → l.seatRef + l.settings.comm ≤ s.pcOf n x → s.QueuesArmed →
      (∃ m, m ≠ n ∧ (s.line m).state = .injecting) → ∃ u : State, exec (.lineSampleEvent n x) s = .next u ∧
        let named := s.linesIn .injecting
        (∀ m, m ∈ named ↔ (s.line m).state = .injecting) ∧ (u.line n).state = l.state ∧ (u.line n).latch.commMark = true ∧
        u.lineHolds[n] = s.lineHolds[n].place 2
          (s.ownEvent n .communication (some (.num (s.pcOf n x))) (some (.lines named))) ∧
        (s.responses.comm = .report → s.OnlyLine u n) ∧
        (s.responses.comm = .pause → paused u (fun m => (s.line m).state = .injecting)) ∧
        (s.responses.comm = .group →
          paused u (fun m => stoppable m ∧ (s.line m).draw ≠ none ∧ ∃ k ∈ named, (s.line k).draw = (s.line m).draw)) ∧
        (s.responses.comm = .all → paused u stoppable) ∧
        (s.responses.comm = .endStage → ∀ m ∈ named, ∀ b c, (s.line m).bound = some b → (s.line m).startClock = some c →
          let f := (s.line m).fig
          let r : StageResult := ⟨b.hole, b.stage, m, c, s.clock, .protect, f.volume, f.lastTake, f.maxPe, f.lastPe,
            f.lastIntensity, f.mixList, (s.line m).mixChanges, (s.line m).pauses, (s.line m).regrout, (s.line m).heaveMax⟩
          (u.line m).state = (if (s.line m).settings.shutin = 0 then .decaying else .shutIn) ∧
          (u.line m).endReason = some .protect ∧ (r ∈ u.results ∨ (u.line m).pendingResult = some r)))

/-! ## Circulation and grout age -/

/-- FOULED: a line whose grout age reaches the set-time limit is forced to FOULED, from every state that holds grout. A stage whose
end reason is not fixed ends there with FOULED, and its result is handed over where it had started; a fixed reason is kept, and
a DONE reason makes the record DONE and sets its mark, every other mark as before. The line leaves every queue and set (R41, R45,
R125, R157, R163). A line that fouls while INJECTING hands over the figures of that same sample (R163). -/
def Obligations.OldGroutFoulsTheLine : Prop :=
  ∀ (n : LineId) (x : Sample) (age lim : Nat) (s : State),
    let l := s.line n
    l.key = .remote → l.sensorsRaised x = 0 → l.inputs.tare = none → l.circ.running = false →
    l.circ.age = some age → s.ageLimit l = some lim → lim ≤ min 144000 (age + 1) / 10 →
    let resting := (l.state = .primed ∨ l.state = .seated ∨ l.state = .armed ∨ l.state = .paused) ∧ s.SeatCalm n x
    let timed :=
      (l.state = .seating ∧ (s.packerOf n x < l.settings.seatp ∨ l.condCount < 19) ∧ s.timerAfter n < 60) ∨
      (l.state = .shutIn ∧ s.timerAfter n < l.settings.shutin) ∨
      (l.state = .decaying ∧ (l.settings.relp < s.pcOf n x ∨ l.condCount < 9) ∧ (s.timerAfter n < 300 ∨ l.slowMark = true)) ∨
      (l.state = .releasing ∧ (100 < s.packerOf n x ∨ l.condCount < 9) ∧ (s.timerAfter n < 60 ∨ l.slowMark = true))
    let gone := fun (u : State) =>
      let m := u.line n
      m.state = .fouled ∧ m.pauseCause = some .age ∧ m.bound = none ∧ m.watched = [] ∧ m.draw = none ∧ m.columnMix = none ∧
      m.drawMix = none ∧ m.pendingMix = none ∧ m.envelope = none ∧ m.window = none ∧ m.releaseFlag = false ∧
      m.circ = ⟨none, false, l.circ.runCount, false⟩ ∧ m.fig.pumpRate = 0 ∧
      m.valves = ⟨false, false, false, true, true, false⟩ ∧ m.settings = l.settings ∧ m.key = .remote ∧
      ∀ a, n ∉ (u.tank a).startQueue
    (resting ∨ timed → ∃ u : State, exec (.fouled n x) s = .next u ∧ gone u ∧
      u.lineHolds[n] = s.lineHolds[n].place 2
        (s.ownEvent n .fouled (some (.state l.state)) (l.columnMix.map fun k => .num k)) ∧
      (l.bound = none → u.book = s.book ∧ u.holes = s.holes ∧ u.results = s.results) ∧
      (∀ b r, l.bound = some b → l.endReason = some r → u.results = s.results ∧ s.Releases u b (some r)) ∧
      (∀ b, l.bound = some b → l.endReason = none → s.Releases u b (some .fouled) ∧
        (l.startClock = none → u.results = s.results) ∧
        ∀ c, l.startClock = some c →
          let r : StageResult := ⟨b.hole, b.stage, n, c, s.clock, .fouled, l.fig.volume, l.fig.lastTake, l.fig.maxPe,
            l.fig.lastPe, l.fig.lastIntensity, l.fig.mixList, l.mixChanges, l.pauses, l.regrout, l.heaveMax⟩
          (s.results.length < 16 → u.results = s.results ++ [r]) ∧
          (16 ≤ s.results.length → u.results = s.results ∧ (u.line n).pendingResult = some r))) ∧
    (∀ tb b c, l.state = .injecting → s.stageTables l = some tb → l.bound = some b → l.startClock = some c →
      l.endReason = none → x.pulses * l.settings.pulse = 0 → (∀ k, s.responses.get k ≠ .endStage) → s.Unqueued n →
      ((s.measure n x).compute tb (s.pcOf n x) x.pulses ((s.measure n x).line n)).ended = none →
      ∃ u : State, exec (.fouled n x) s = .next u ∧ gone u ∧ s.Releases u b (some .fouled) ∧
        let m := u.line n
        let r : StageResult := ⟨b.hole, b.stage, n, c, s.clock, .fouled, m.fig.volume, m.fig.lastTake, m.fig.maxPe,
          m.fig.lastPe, m.fig.lastIntensity, m.fig.mixList, m.mixChanges, m.pauses, m.regrout, m.heaveMax⟩
        (s.results.length < 16 → u.results = s.results ++ [r]) ∧
        (16 ≤ s.results.length → u.results = s.results ∧ m.pendingResult = some r))

/-- CIRCULATION RUN DUE and CIRCULATION RUN END: a run starts at CIRCI where the agitator can serve it and is else blocked, with
CIRC BLOCKED on the first blocked sample; a run ends after CIRCD seconds with the grout age at 0 (R156, R158, R159). A run on
the head of a start queue withholds the grant, and at its end the line is granted with its age at 0 (R110, R162). While a tare
is in progress no run starts and no line is blocked; the sample that ends it, complete or not, examines the run after the
settling that the tare's end brings (R15, R16, R114, R159). Where the tare had deferred the run before that sample, R17 and R159
differ and a free value of the model says whether it waits for the line's next sample event (notes/assumptions/31.md). That the
run count keeps its value after a run's end is the model's reading (notes/assumptions/24.md). -/
def Obligations.CirculationRuns : Prop :=
  ∀ (n : LineId) (x : Sample) (age : Nat) (s : State),
    let l := s.line n
    let aged := min 144000 (age + 1)
    let good := 3600 ≤ x.collar ∧ x.collar ≤ 20800
    let v := if x.collar < 4000 then 0 else if x.collar ≤ 20000 then (x.collar - 4000) * l.settings.cspan / 16000 else l.settings.cspan
    (l.state = .primed ∨ l.state = .seated ∨ l.state = .armed ∨ l.state = .paused) →
    l.sensorsRaised x = 0 → s.SeatCalm n x → l.circ.age = some age →
    (∀ k sum, l.state = .primed → l.inputs.tare = some ⟨k, sum⟩ → l.circ.running = false →
      (∀ lim, s.ageLimit l = some lim → aged / 10 < lim ∧ age / 10 < lim) →
      (good → k ≠ 19 → ∃ u : State, exec (.lineSampleEvent n x) s = .next u ∧
        (u.line n).SameButChecks { s.sampled n x with fig := { l.fig with pumpRate := 0 } } ∧
        u.lineHolds[n] = s.lineHolds[n] ∧ s.OnlyLine u n) ∧
      ((good → k = 19) → s.Unqueued n → l.key = .remote → s.loop = .closed → s.plant.circi ≤ aged / 10 →
        ∃ u : State, exec (.lineSampleEvent n x) s = .next u ∧
          let waits := 0 < k ∧ s.plant.circi ≤ age / 10 ∧ Config.deferredRunWaits = true
          let able := ∃ a, l.draw = some a ∧ (u.tank a).state = .ready ∧ 0 < (u.tank a).level
          let mean := (sum + v) / 20
          let told := s.lineHolds[n].place 2 (if good then
            s.ownEvent n (if mean ≤ 300 then .tareDone else .tareFail) (some (.num mean)) else s.ownEvent n .tareFail)
          (waits → (u.line n).SameButChecks { s.sampled n x with fig := { l.fig with pumpRate := 0 } } ∧ u.lineHolds[n] = told) ∧
          (¬waits → exec (.circulationRunDue n x) s = .next u ∧
            (able → (u.line n).SameButChecks { s.sampled n x with
                valves := ⟨false, true, false, false, true, false⟩
                fig := { l.fig with pumpRate := l.settings.crate }
                circ := ⟨some aged, true, 0, l.circ.blocked && aged != 0⟩ } ∧
              u.lineHolds[n] = told) ∧
            (¬able → (u.line n).SameButChecks { s.sampled n x with
                fig := { l.fig with pumpRate := 0 }
                circ := ⟨some aged, false, l.circ.runCount, true⟩ } ∧
              u.lineHolds[n] = (if l.circ.blocked = true then told else
                told.place 2 (s.ownEvent n .circBlocked (some (.num (aged / 10 : Nat))) (l.draw.map .tank))))))) ∧
    (l.inputs.tare = none →
    (l.circ.running = false → l.key = .remote → s.loop = .closed → s.plant.circi ≤ aged / 10 →
      (∀ lim, s.ageLimit l = some lim → aged / 10 < lim) →
      let able := ∃ a, l.draw = some a ∧ (s.tank a).state = .ready ∧ 0 < (s.tank a).level
      (able → ∃ u : State, exec (.circulationRunDue n x) s = .next u ∧
        (u.line n).SameButChecks { s.sampled n x with
          valves := ⟨false, true, false, false, l.state == .primed, false⟩
          fig := { l.fig with pumpRate := l.settings.crate }
          circ := ⟨some aged, true, 0, l.circ.blocked && aged != 0⟩ } ∧
        u.lineHolds[n] = s.lineHolds[n] ∧ s.OnlyLine u n) ∧
      (¬able → ∃ u : State, exec (.circulationRunDue n x) s = .next u ∧
        (u.line n).SameButChecks { s.sampled n x with
          fig := { l.fig with pumpRate := 0 }
          circ := ⟨some aged, false, l.circ.runCount, true⟩ } ∧
        u.lineHolds[n] = (if l.circ.blocked = true then s.lineHolds[n] else s.lineHolds[n].place 2
          (s.ownEvent n .circBlocked (some (.num (aged / 10 : Nat))) (l.draw.map .tank))) ∧
        s.OnlyLine u n)) ∧
    (l.circ.running = true → s.Unqueued n → l.pendingMix = none → s.plant.circd * 10 ≤ min 3000 (l.circ.runCount + 1) →
      (∀ lim, s.ageLimit l = some lim → 0 < lim) →
      ∃ u : State, exec (.circulationRunEnd n x) s = .next u ∧
        (u.line n).SameButChecks { s.sampled n x with
          valves := ⟨false, false, false, false, l.state == .primed, false⟩
          fig := { l.fig with pumpRate := 0 }
          circ := ⟨some 0, false, min 3000 (l.circ.runCount + 1), false⟩ } ∧
        u.lineHolds[n] = s.lineHolds[n]) ∧
    (∀ a rest, l.circ.running = true → l.state = .armed → l.draw = some a → (s.tank a).startQueue = n :: rest →
      exec (.startGrant a) s = .next s ∧
      (n ∉ (s.tank a.other).startQueue → l.pendingMix = none → s.mixer ≠ .idle →
        s.plant.circd * 10 ≤ min 3000 (l.circ.runCount + 1) → (∀ lim, s.ageLimit l = some lim → 0 < lim) →
        (s.tank a).state = .ready → (s.tank a).mix = l.drawMix → 0 < (s.tank a).level → s.plant.stagger ≤ (s.tank a).stagger →
        ∃ u : State, exec (.circulationRunEnd n x) s = .next u ∧
          (u.line n).state = .injecting ∧ (u.line n).circ = ⟨some 0, false, min 3000 (l.circ.runCount + 1), false⟩ ∧
          (u.line n).startClock = some (l.startClock.getD s.clock) ∧ (u.line n).fig.pumpRate = 0 ∧
          n ∉ (u.tank a).startQueue ∧
          u.lineHolds[n] = s.lineHolds[n].place 2 (s.ownEvent n .started (some (.num l.pauses))))))

/-! ## Gauge samples -/

/-- A gauge sample: nothing for an OFF gauge; a good sample is scaled, an out-of-range one is counted and the heave held;
either, but for the tenth out-of-range one, raises the maximum and passes the tests of WATCH and WARN; entry to ALARM pauses
every watcher in INJECTING or ARMED, and the plant settles where one leaves a start queue (R114, R130, R131, R133, R134; that it
settles for no other alarm is the model's reading, notes/assumptions/18.md). In FAULT no test is made, and a good sample before
the tenth raises the good count, which an out-of-range one makes 0 (R131); that a fault count which reaches 10 again in FAULT
raises nothing is the model's reading (notes/assumptions/16.md). GAUGE FAULT and GAUGE RESTORED: the tenth out-of-range sample
in a row, and the tenth good one in FAULT, with a new baseline where the gauge is watched (R131). -/
def Obligations.GaugeSamplesAreTested : Prop :=
  (∀ (g : GaugeId) (current : Nat) (s : State),
     let q := s.gauge g
     let good := 3600 ≤ current ∧ current ≤ 20800
     let tenth := ¬good ∧ q.faults = 9
     let heave := if good then max (-(q.span : Int)) (min q.span ((((current : Int) - 12000) * q.span).tdiv 8000)) else q.heave
     let relative := heave - q.baseline
     let read := if good then { q with faults := 0, heave := heave } else { q with faults := min 10 (q.faults + 1), goods := 0 }
     let raised := { read with maximum := max q.maximum relative.toNat }
     let frame := fun u : State => (∀ h, h ≠ g → u.gauge h = s.gauge h) ∧
       ∀ n, u.line n = if g ∈ (s.line n).watched ∧ (s.line n).state = .injecting then
         { s.line n with heaveMax := (s.line n).heaveMax.map fun m => max m relative.toNat } else s.line n
     let run := exec (.gaugeSampleEvent g current) s
     (q.state = .off → run = .next s) ∧
     (¬good → q.state = .idle → q.faults < 9 → (∀ n, g ∉ (s.line n).watched) →
       run = .next (s.setGauge g { q with faults := q.faults + 1, goods := 0 })) ∧
     (good → q.state = .idle → (∀ n, g ∉ (s.line n).watched) → run = .next (s.setGauge g read)) ∧
     (q.state = .fault → (good → q.goods < 9) → ∃ u : State, run = .next u ∧
       u.gauge g = (if good then { read with goods := q.goods + 1 } else read) ∧ frame u ∧
       u = { s with lines := u.lines, gauges := u.gauges }) ∧
     (¬tenth → (q.state = .watch ∧ relative < q.warn ∨ q.state = .warn ∧ relative < (q.warn : Int) - q.hyst) →
       relative < q.alarm → ∃ u : State, run = .next u ∧ u.gauge g = { raised with state := .watch } ∧ frame u ∧
         u = { s with lines := u.lines, gauges := u.gauges }) ∧
     (¬tenth → (q.state = .watch ∧ (q.warn : Int) ≤ relative ∨ q.state = .warn ∧ (q.warn : Int) - q.hyst ≤ relative) →
       relative < q.alarm → ∃ u : State, run = .next u ∧ u.gauge g = { raised with state := .warn } ∧ frame u ∧
         u.plantHold = (if q.state = .watch then
           s.plantHold.place 4 ⟨.upliftWarn, s.clock, some (.gauge g), some (.num relative), none⟩ else s.plantHold) ∧
         u = { s with lines := u.lines, gauges := u.gauges, plantHold := u.plantHold }) ∧
     (¬tenth → q.state = .alarm → ∃ u : State, run = .next u ∧ u.gauge g = raised ∧ frame u ∧
       u = { s with lines := u.lines, gauges := u.gauges }) ∧
     (¬tenth → (q.state = .watch ∨ q.state = .warn) → (q.alarm : Int) ≤ relative → ∃ u v : State, run = .next v ∧
       u.SettledIf (∃ m, g ∈ (s.line m).watched ∧ ((s.line m).state = .injecting ∨ (s.line m).state = .armed) ∧
         ∃ a, m ∈ (s.tank a).startQueue) v ∧
       u.gauge g = { raised with state := .alarm } ∧ (∀ h, h ≠ g → u.gauge h = s.gauge h) ∧
       u.plantHold = s.plantHold.place 4
         ⟨.upliftAlarm, s.clock, some (.gauge g), some (.num relative), some (.lines (s.watchers g))⟩ ∧
       (∀ n, g ∈ (s.line n).watched → ((s.line n).state = .injecting ∨ (s.line n).state = .armed) →
         (u.line n).state = .paused ∧ (u.line n).pauseCause = some .uplift ∧ (∀ a, n ∉ (u.tank a).startQueue) ∧
         u.lineHolds[n] = s.lineHolds[n].place 2 (s.ownEvent n .paused (some (.cause .uplift)))) ∧
       (∀ n, g ∉ (s.line n).watched ∨ ((s.line n).state ≠ .injecting ∧ (s.line n).state ≠ .armed) →
         u.line n = s.line n ∧ u.lineHolds[n] = s.lineHolds[n]) ∧
       u = { s with
         lines := u.lines
         lineHolds := u.lineHolds
         tankA := u.tankA
         tankB := u.tankB
         gauges := u.gauges
         plantHold := u.plantHold })) ∧
  (∀ (g : GaugeId) (current : Nat) (s : State),
     let q := s.gauge g
     let good := 3600 ≤ current ∧ current ≤ 20800
     let heave := max (-(q.span : Int)) (min q.span ((((current : Int) - 12000) * q.span).tdiv 8000))
     let others := fun u : State => (∀ h, h ≠ g → u.gauge h = s.gauge h) ∧
       (∀ n, (∀ m, (s.line n).heaveMax = some m → (u.line n).heaveMax.isSome = true) ∧
         u.line n = { s.line n with heaveMax := (u.line n).heaveMax }) ∧
       u = { s with lines := u.lines, gauges := u.gauges, plantHold := u.plantHold }
     (¬good → q.faults = 9 → (q.state = .idle ∨ q.state = .watch ∨ q.state = .warn) →
       ∃ u : State, exec (.gaugeFault g current) s = .next u ∧
         u.gauge g = { q with faults := 10, goods := 0, state := .fault } ∧ others u ∧
         u.plantHold = s.plantHold.place 4 ⟨.gaugeFault, s.clock, some (.gauge g), some (.num current), none⟩) ∧
     (¬good → q.faults = 9 → q.state = .alarm → ∃ u : State, exec (.gaugeFault g current) s = .next u ∧
       u.gauge g = { q with faults := 10, goods := 0, maximum := max q.maximum (q.heave - q.baseline).toNat } ∧ others u ∧
       u.plantHold = s.plantHold.place 4 ⟨.gaugeFault, s.clock, some (.gauge g), some (.num current), none⟩) ∧
     (good → q.goods = 9 → q.state = .fault → (∃ n, g ∈ (s.line n).watched) → 0 < q.warn → 0 < q.alarm →
       ∃ u : State, exec (.gaugeRestored g current) s = .next u ∧
         u.gauge g = { q with faults := 0, goods := 10, heave := heave, baseline := heave, maximum := 0, state := .watch } ∧
         others u ∧ u.plantHold = s.plantHold.place 4 ⟨.gaugeRestored, s.clock, some (.gauge g), some (.num heave), none⟩) ∧
     (good → q.goods = 9 → q.state = .fault → (∀ n, g ∉ (s.line n).watched) →
       ∃ u : State, exec (.gaugeRestored g current) s = .next u ∧
         u.gauge g = { q with faults := 0, goods := 10, heave := heave, state := .idle } ∧
         others u ∧ u.plantHold = s.plantHold.place 4 ⟨.gaugeRestored, s.clock, some (.gauge g), some (.num heave), none⟩))

/-! ## The part clock and the plant -/

/-- A part-clock second advances the clock, both stagger counts and the phase timer of a mixer at work; at DUMPT the dump ends and
at BATCHT the batch is delivered (R104, R105, R106, R111, R176). What follows each is the settling of the plant; that the counts
advance before the phase ends, and that its settling comes before the second's own, is the model's choice
(notes/assumptions/34.md). When a request is discarded and when it is eligible, one for ANY on A before B (R103). MIXER TAKES
REQUEST: the oldest eligible request is taken, the discarded ones before it leave the queue and the others keep their places. A
TOPUP makes its agitator RECEIVING; a CHANGE dumps an agitator with a level above 0 and else makes it RECEIVING with no mix (R103,
R104, R105). -/
def Obligations.SecondsAndRequestsDriveThePlant : Prop :=
  (∀ s : State,
     let tick := fun k : Tank => { k with stagger := min 300 (k.stagger + 1) }
     let next : State := { s with clock := s.clock + 1, tankA := tick s.tankA, tankB := tick s.tankB }
     (s.mixer = .idle → exec .partClockSecond s = .next next.settle) ∧
     (∀ a r, (s.mixer = .waiting a r ∧ s.phaseTimer + 1 < s.plant.dumpt ∨
         s.mixer = .mixing a r ∧ s.phaseTimer + 1 < s.plant.batcht) →
       exec .partClockSecond s = .next { next with phaseTimer := s.phaseTimer + 1 }.settle) ∧
     (∀ a r, s.mixer = .waiting a r → s.plant.dumpt ≤ s.phaseTimer + 1 →
       exec .dumpEnd s = .next (({ next with mixer := .mixing a r, phaseTimer := 0 }.setTank a
         { tick (s.tank a) with state := .receivingChange, mix := none, level := 0 }).settle.settle)) ∧
     (∀ a r, s.mixer = .mixing a r → s.plant.batcht ≤ s.phaseTimer + 1 →
       let level := min ((s.tank a).level + s.plant.batchv * 1000) ((s.tank a).cap * 1000)
       exec .batchDone s = .next (({ next with
           mixer := .idle
           phaseTimer := 0
           plantHold := s.plantHold.place 4
             ⟨.batchDone, s.clock + 1, some (.tank a), some (.num r.mix), some (.num (level / 1000 : Nat))⟩ }.setTank a
         { tick (s.tank a) with state := .ready, mix := some r.mix, level := level }).settle.settle))) ∧
  (∀ s : State,
     let wanted := fun k => ∃ n, ((s.line n).state = .armed ∨ (s.line n).state = .injecting ∨ (s.line n).state = .paused) ∧
       (s.line n).pendingMix = some k
     let free := fun a => (∀ n, (s.line n).draw ≠ some a) ∧ ((s.tank a).state = .ready ∨ (s.tank a).state = .empty)
     (∀ r, s.discards r = true ↔
       (r.kind = .topup ∧ ∃ a, r.tank = .one a ∧
         ((s.tank a).state = .empty ∨ (s.tank a).state = .dumping ∨ (s.tank a).mix ≠ some r.mix)) ∨
       (r.kind = .change ∧ r.origin ≠ .order ∧ ¬wanted r.mix)) ∧
     (∀ r a, s.eligible r = some a ↔
       (r.kind = .topup ∧ r.tank = .one a ∧ (s.tank a).state = .ready ∧ (s.tank a).mix = some r.mix ∧
         (s.tank a).level + s.plant.batchv * 1000 ≤ (s.tank a).cap * 1000) ∨
       (r.kind = .change ∧ free a ∧ (r.tank = .one a ∨ (r.tank = .any ∧ (a = .tankA ∨ ¬free .tankA))))) ∧
     ∀ (before after : List Request) (r : Request) (a : AgitatorId),
       s.mixer = .idle → s.batchQueue = before ++ r :: after → (∀ q ∈ before, s.discards q = true ∨ s.eligible q = none) →
       s.discards r = false → s.eligible r = some a →
       let t := s.tank a
       let taken : Request := { r with tank := .one a }
       let next : State := { s with batchQueue := before.filter (fun q => !s.discards q) ++ after, phaseTimer := 0 }
       (r.kind = .topup → exec .mixerTakesRequest s =
         .next ({ next with mixer := .mixing a taken }.setTank a { t with state := .receivingTopup })) ∧
       (r.kind = .change → 0 < t.level → exec .mixerTakesRequest s =
         .next ({ next with mixer := .waiting a taken }.setTank a { t with state := .dumping })) ∧
       (r.kind = .change → t.level = 0 → exec .mixerTakesRequest s =
         .next ({ next with mixer := .mixing a taken }.setTank a { t with state := .receivingChange, mix := none })))

/-- SWITCHOVER and START GRANT: the pending mix waits READY on the other agitator, and the head of a start queue meets R110's
conditions (R30, R107, R110). What follows each is the settling of the plant.
The settings are used as they stand when the act is taken, which is the model's choice (notes/assumptions/33.md). -/
def Obligations.SwitchoversAndGrants : Prop :=
  ∀ (n : LineId) (a : AgitatorId) (s : State),
    let l := s.line n
    let o := s.tank a.other
    let others := fun u : State => (∀ m, m ≠ n → u.line m = s.line m) ∧ ∀ m : LineId, m ≠ n → u.lineHolds[m] = s.lineHolds[m]
    (∀ k, (l.state = .armed ∨ l.state = .injecting ∨ l.state = .paused) → l.pendingMix = some k → l.draw = some a →
      o.state = .ready → o.mix = some k → 0 < o.level → ∃ u : State, exec (.switchover n) s = .next u.settle ∧
        u.line n = { l with
          draw := some a.other
          drawMix := some k
          pendingMix := none
          front := l.settings.hose
          mixChanges := min 255 (l.mixChanges + 1)
          fig := { l.fig with mixVolume := 0 }
          latch := { l.latch with
            holdOff := if l.settings.holdon.switch = true ∧ l.state = .injecting then 20 else l.latch.holdOff } } ∧
        (l.state = .armed →
          u.tank a.other = { o with startQueue := o.startQueue.filter (· ≠ n) ++ [n] } ∧
          u.tank a = { s.tank a with startQueue := (s.tank a).startQueue.filter (· ≠ n) }) ∧
        (l.state ≠ .armed → ∀ b, u.tank b = s.tank b) ∧
        u.lineHolds[n] = s.lineHolds[n].place 2 (s.ownEvent n .mixSwitch (some (.num k)) (some (.tank a.other))) ∧ others u ∧
        u.batchQueue = s.batchQueue.filter (fun r => !u.notNeeded r) ∧
        u = { s with
          lines := u.lines
          lineHolds := u.lineHolds
          tankA := u.tankA
          tankB := u.tankB
          batchQueue := u.batchQueue }) ∧
    (∀ rest, (s.tank a).startQueue = n :: rest → (s.tank a).state = .ready → (s.tank a).mix = l.drawMix → 0 < (s.tank a).level →
      s.plant.stagger ≤ (s.tank a).stagger → l.circ.running = false → l.inputs.tare = none →
      ∃ u : State, exec (.startGrant a) s = .next u.settle ∧
        u.line n = { l.enter .injecting with
          startClock := some (l.startClock.getD s.clock)
          fig := { (l.enter .injecting).fig with rateRecord := [0, 0, 0, 0, 0, 0, 0, 0, 0, 0], tripMark := false }
          latch := { (l.enter .injecting).latch with
            reference := none, period := 0, holdOff := 0, dropMark := false, surgeMark := false } } ∧
        u.tank a = { s.tank a with startQueue := rest.filter (· ≠ n), stagger := 0 } ∧ u.tank a.other = s.tank a.other ∧
        u.lineHolds[n] = s.lineHolds[n].place 2 (s.ownEvent n .started (some (.num l.pauses))) ∧ others u ∧
        u = { s with lines := u.lines, lineHolds := u.lineHolds, tankA := u.tankA, tankB := u.tankB })

/-- A settling leaves no line that is due a switchover and no start queue whose head is due its grant, and an IDLE mixer no request
that is to be discarded or could be taken (R103, R110, R111, R114). It creates the TOPUP of a READY agitator below its low level,
and the CHANGE of a line that waits for a mix no agitator has, on the agitator of R100's table; it creates no other request (R98,
R99, R100). -/
def Obligations.SettlingLeavesNothingDue : Prop :=
  ∀ s : State,
    let working := fun n => (s.line n).state = .armed ∨ (s.line n).state = .injecting ∨ (s.line n).state = .paused
    let drawn := fun a => ∃ m, (s.line m).draw = some a
    let short := fun a => (s.tank a).state = .ready ∧ (s.tank a).level < (s.tank a).low * 1000
    (s.QueuesArmed → (∀ n, s.settle.switchDue n = none) ∧ ∀ a, s.settle.grantDue a = none) ∧
    (s.settle.mixer = .idle → ∀ r ∈ s.settle.batchQueue, s.settle.discards r = false ∧ s.settle.eligible r = none) ∧
    (∀ a k, s.mixer ≠ .idle → short a → (s.tank a).mix = some k → (∀ r ∈ s.batchQueue, r.tank ≠ .one a) →
      s.batchQueue.length + (if a = .tankB then 1 else 0) < 8 → ⟨.one a, k, .topup, .auto⟩ ∈ s.settle.batchQueue) ∧
    (∀ n k, s.mixer ≠ .idle → working n → (s.line n).pendingMix = some k → (∀ m, m ≠ n → (s.line m).pendingMix = none) →
      (∀ a, ¬((s.tank a).mix = some k ∧ ((s.tank a).state = .ready ∨ (s.tank a).state = .receivingTopup))) →
      (∀ a, ¬short a) → (∀ r ∈ s.batchQueue, r.mix ≠ k) → s.batchQueue.length < 8 →
      (∀ a r, s.mixer = .waiting a r ∨ s.mixer = .mixing a r → ¬(r.kind = .change ∧ r.mix = k)) →
      let change := fun d : Designation => s.settle.batchQueue = s.batchQueue ++ ([⟨d, k, .change, .line n⟩] : List Request)
      (∀ a : AgitatorId, drawn a.other → ¬drawn a → change (.one a)) ∧
      (drawn .tankA → drawn .tankB → change .any) ∧
      (¬drawn .tankA → ¬drawn .tankB → change (.one (if s.tankB.level < s.tankA.level then .tankB else .tankA)))) ∧
    (s.QueuesArmed → ∀ r ∈ s.settle.batchQueue, r ∈ s.batchQueue ∨
      (∃ a k, r = ⟨.one a, k, .topup, .auto⟩ ∧ short a ∧ (s.tank a).mix = some k) ∨
      ∃ n, working n ∧ (s.line n).pendingMix = some r.mix ∧ r.kind = .change ∧ r.origin = .line n)

/-! ## What every step keeps -/

/-- While the site-stop loop is open no pump runs, whatever the command (R20, R152). -/
def Obligations.StepsKeepPumpsStopped : Prop :=
  ∀ s t : State, s.PumpsStopped → step s = .next t → t.PumpsStopped

/-- Every line's valves follow its state, a circulation run goes on only in its four states, the pump rate is 0 in every state other
than PRIMING, INJECTING and WASHING except during a run, and the rate of an INJECTING line stays within 0 and RMAX (R19, R20,
R67, R158). -/
def Obligations.StepsKeepOutputsFollowing : Prop :=
  ∀ s t : State, s.OutputsFollow ∧ s.RatesBounded → step s = .next t → t.OutputsFollow ∧ t.RatesBounded

/-- Every store keeps to its size, and a pending result waits only behind a full queue (R98, R115, R119, R165, R173, R180). -/
def Obligations.StepsKeepStoresBounded : Prop :=
  ∀ s t : State, s.StoresBounded ∧ s.PendingFull → step s = .next t → t.StoresBounded ∧ t.PendingFull

/-- Every level stays within its capacity above a low level below it, every gauge keeps hysteresis below warn below alarm, and
density rises with the mix index (R89, R90, R92, R93, R129). -/
def Obligations.StepsKeepTablesOrdered : Prop :=
  ∀ s t : State, s.LevelsBounded ∧ s.TablesOrdered → step s = .next t → t.LevelsBounded ∧ t.TablesOrdered

/-- Start queues hold ARMED lines of their own agitator, no line twice, and no gauge in ALARM has a watcher in INJECTING or ARMED
(R92, R109, R134). -/
def Obligations.StepsKeepAlarmsStopping : Prop :=
  ∀ s t : State, s.QueuesArmed ∧ s.AlarmsStop → step s = .next t → t.QueuesArmed ∧ t.AlarmsStop

/-- No two records of the book share a hole and stage, and each has its hole's one entry in the map (R115, R116, R119, R120). -/
def Obligations.StepsKeepTheBookMapped : Prop :=
  ∀ s t : State, s.BookMapped → step s = .next t → t.BookMapped

/-- The machine right after reset, its switches as notes/assumptions/2.md chooses them, meets every condition that the steps
keep. -/
def Obligations.ResetMeetsEveryCondition : Prop :=
  State.reset.PumpsStopped ∧ State.reset.OutputsFollow ∧ State.reset.RatesBounded ∧ State.reset.StoresBounded ∧
  State.reset.PendingFull ∧ State.reset.LevelsBounded ∧ State.reset.TablesOrdered ∧ State.reset.QueuesArmed ∧
  State.reset.AlarmsStop ∧ State.reset.BookMapped ∧ State.reset.pending = []

end
end

