-- ==== Sys2Proof/Laws/Line.lean ====
section
/-! SUPPORT. What a line's entry to a state and its circulation runs leave, field by field (R20, R21, R158). -/

namespace Sys2Proof.Machine

variable (st : LineState) (l : Line)

/-! ### What entry to a state keeps -/

@[simp] theorem Line.enter_pauseCause : (l.enter st).pauseCause = l.pauseCause := rfl
@[simp] theorem Line.enter_bound : (l.enter st).bound = l.bound := rfl
@[simp] theorem Line.enter_regrout : (l.enter st).regrout = l.regrout := rfl
@[simp] theorem Line.enter_startClock : (l.enter st).startClock = l.startClock := rfl
@[simp] theorem Line.enter_endReason : (l.enter st).endReason = l.endReason := rfl
@[simp] theorem Line.enter_watched : (l.enter st).watched = l.watched := rfl
@[simp] theorem Line.enter_seatRef : (l.enter st).seatRef = l.seatRef := rfl
@[simp] theorem Line.enter_draw : (l.enter st).draw = l.draw := rfl
@[simp] theorem Line.enter_columnMix : (l.enter st).columnMix = l.columnMix := rfl
@[simp] theorem Line.enter_drawMix : (l.enter st).drawMix = l.drawMix := rfl
@[simp] theorem Line.enter_pendingMix : (l.enter st).pendingMix = l.pendingMix := rfl
@[simp] theorem Line.enter_front : (l.enter st).front = l.front := rfl
@[simp] theorem Line.enter_envelope : (l.enter st).envelope = l.envelope := rfl
@[simp] theorem Line.enter_window : (l.enter st).window = l.window := rfl
@[simp] theorem Line.enter_releaseFlag : (l.enter st).releaseFlag = l.releaseFlag := rfl
@[simp] theorem Line.enter_pendingResult : (l.enter st).pendingResult = l.pendingResult := rfl
@[simp] theorem Line.enter_key : (l.enter st).key = l.key := rfl
@[simp] theorem Line.enter_pauses : (l.enter st).pauses = l.pauses := rfl
@[simp] theorem Line.enter_mixChanges : (l.enter st).mixChanges = l.mixChanges := rfl
@[simp] theorem Line.enter_heaveMax : (l.enter st).heaveMax = l.heaveMax := rfl
@[simp] theorem Line.enter_settings : (l.enter st).settings = l.settings := rfl
@[simp] theorem Line.enter_inputs : (l.enter st).inputs = l.inputs := rfl
@[simp] theorem Line.enter_volume : (l.enter st).fig.volume = l.fig.volume := rfl
@[simp] theorem Line.enter_mixVolume : (l.enter st).fig.mixVolume = l.fig.mixVolume := rfl
@[simp] theorem Line.enter_mixList : (l.enter st).fig.mixList = l.fig.mixList := rfl
@[simp] theorem Line.enter_pointIndex : (l.enter st).fig.pointIndex = l.fig.pointIndex := rfl
@[simp] theorem Line.enter_dwellCount : (l.enter st).fig.dwellCount = l.fig.dwellCount := rfl
@[simp] theorem Line.enter_refusalCount : (l.enter st).fig.refusalCount = l.fig.refusalCount := rfl
@[simp] theorem Line.enter_rateRecord : (l.enter st).fig.rateRecord = l.fig.rateRecord := rfl
@[simp] theorem Line.enter_warnCap : (l.enter st).fig.warnCap = l.fig.warnCap := rfl
@[simp] theorem Line.enter_tripMark : (l.enter st).fig.tripMark = l.fig.tripMark := rfl
@[simp] theorem Line.enter_lastPe : (l.enter st).fig.lastPe = l.fig.lastPe := rfl
@[simp] theorem Line.enter_lastAllowed : (l.enter st).fig.lastAllowed = l.fig.lastAllowed := rfl
@[simp] theorem Line.enter_lastTarget : (l.enter st).fig.lastTarget = l.fig.lastTarget := rfl
@[simp] theorem Line.enter_lastIntensity : (l.enter st).fig.lastIntensity = l.fig.lastIntensity := rfl
@[simp] theorem Line.enter_lastTake : (l.enter st).fig.lastTake = l.fig.lastTake := rfl
@[simp] theorem Line.enter_maxPe : (l.enter st).fig.maxPe = l.fig.maxPe := rfl

/-! ### What entry to a state changes -/

@[simp] theorem Line.enter_state : (l.enter st).state = st := rfl
@[simp] theorem Line.enter_stateTicks : (l.enter st).stateTicks = 0 := rfl
@[simp] theorem Line.enter_condCount : (l.enter st).condCount = 0 := rfl
@[simp] theorem Line.enter_slowMark : (l.enter st).slowMark = false := rfl
@[simp] theorem Line.enter_running : (l.enter st).circ.running = (l.circ.running && st.takesRuns) := rfl
@[simp] theorem Line.enter_age : (l.enter st).circ.age = l.circ.age := rfl
@[simp] theorem Line.enter_blocked : (l.enter st).circ.blocked = l.circ.blocked := rfl
@[simp] theorem Line.enter_valves : (l.enter st).valves = valvesOf st (l.circ.running && st.takesRuns) := rfl
@[simp] theorem Line.enter_pumpRate :
    (l.enter st).fig.pumpRate = l.entryRate st (l.circ.running && st.takesRuns) := rfl

/-- Entry to a state outside the four that take runs ends any run and, but to prime or wash, stops the pump (R20, R158). -/
theorem Line.enter_stops (h : st.takesRuns = false) (hp : st ≠ .priming) (hw : st ≠ .washing) :
    (l.enter st).fig.pumpRate = 0 ∧ (l.enter st).circ.running = false := by
  cases st <;> simp_all [Line.entryRate, LineState.takesRuns]

/-! ### Circulation runs -/

@[simp] theorem Line.endRun_running : l.endRun.circ.running = false := by
  unfold Line.endRun; split <;> simp_all

@[simp] theorem Line.endRun_state : l.endRun.state = l.state := by
  unfold Line.endRun; split <;> rfl

theorem Line.endRun_of_not_running (h : l.circ.running = false) : l.endRun = l := by simp [Line.endRun, h]

@[simp] theorem Line.startRun_running : l.startRun.circ.running = true := rfl
@[simp] theorem Line.startRun_state : l.startRun.state = l.state := rfl
@[simp] theorem Line.startRun_valves : l.startRun.valves = valvesOf l.state true := rfl
@[simp] theorem Line.startRun_pumpRate : l.startRun.fig.pumpRate = l.settings.crate := rfl

end Sys2Proof.Machine
end

