-- ==== Sys2Proof/Laws/State.lean ====
section
/-! SUPPORT. What each update of the state leaves: one lemma for each field and update, so that no later proof unfolds a
record update. -/

namespace Sys2Proof.Machine

variable (s : State)

/-! ### setLine -/

@[simp] theorem State.setLine_tankA (n : LineId) (l : Line) : (s.setLine n l).tankA = s.tankA := rfl
@[simp] theorem State.setLine_tankB (n : LineId) (l : Line) : (s.setLine n l).tankB = s.tankB := rfl
@[simp] theorem State.setLine_mixes (n : LineId) (l : Line) : (s.setLine n l).mixes = s.mixes := rfl
@[simp] theorem State.setLine_batchQueue (n : LineId) (l : Line) : (s.setLine n l).batchQueue = s.batchQueue := rfl
@[simp] theorem State.setLine_mixer (n : LineId) (l : Line) : (s.setLine n l).mixer = s.mixer := rfl
@[simp] theorem State.setLine_phaseTimer (n : LineId) (l : Line) : (s.setLine n l).phaseTimer = s.phaseTimer := rfl
@[simp] theorem State.setLine_plant (n : LineId) (l : Line) : (s.setLine n l).plant = s.plant := rfl
@[simp] theorem State.setLine_points (n : LineId) (l : Line) : (s.setLine n l).points = s.points := rfl
@[simp] theorem State.setLine_windows (n : LineId) (l : Line) : (s.setLine n l).windows = s.windows := rfl
@[simp] theorem State.setLine_envelopes (n : LineId) (l : Line) : (s.setLine n l).envelopes = s.envelopes := rfl
@[simp] theorem State.setLine_book (n : LineId) (l : Line) : (s.setLine n l).book = s.book := rfl
@[simp] theorem State.setLine_holes (n : LineId) (l : Line) : (s.setLine n l).holes = s.holes := rfl
@[simp] theorem State.setLine_gauges (n : LineId) (l : Line) : (s.setLine n l).gauges = s.gauges := rfl
@[simp] theorem State.setLine_responses (n : LineId) (l : Line) : (s.setLine n l).responses = s.responses := rfl
@[simp] theorem State.setLine_loop (n : LineId) (l : Line) : (s.setLine n l).loop = s.loop := rfl
@[simp] theorem State.setLine_config (n : LineId) (l : Line) : (s.setLine n l).config = s.config := rfl
@[simp] theorem State.setLine_lineHolds (n : LineId) (l : Line) : (s.setLine n l).lineHolds = s.lineHolds := rfl
@[simp] theorem State.setLine_plantHold (n : LineId) (l : Line) : (s.setLine n l).plantHold = s.plantHold := rfl
@[simp] theorem State.setLine_results (n : LineId) (l : Line) : (s.setLine n l).results = s.results := rfl
@[simp] theorem State.setLine_clock (n : LineId) (l : Line) : (s.setLine n l).clock = s.clock := rfl
@[simp] theorem State.setLine_serial (n : LineId) (l : Line) : (s.setLine n l).serial = s.serial := rfl
@[simp] theorem State.setLine_pending (n : LineId) (l : Line) : (s.setLine n l).pending = s.pending := rfl

/-! ### updLine -/

@[simp] theorem State.updLine_tankA (n : LineId) (f : Line → Line) : (s.updLine n f).tankA = s.tankA := rfl
@[simp] theorem State.updLine_tankB (n : LineId) (f : Line → Line) : (s.updLine n f).tankB = s.tankB := rfl
@[simp] theorem State.updLine_mixes (n : LineId) (f : Line → Line) : (s.updLine n f).mixes = s.mixes := rfl
@[simp] theorem State.updLine_batchQueue (n : LineId) (f : Line → Line) : (s.updLine n f).batchQueue = s.batchQueue := rfl
@[simp] theorem State.updLine_mixer (n : LineId) (f : Line → Line) : (s.updLine n f).mixer = s.mixer := rfl
@[simp] theorem State.updLine_phaseTimer (n : LineId) (f : Line → Line) : (s.updLine n f).phaseTimer = s.phaseTimer := rfl
@[simp] theorem State.updLine_plant (n : LineId) (f : Line → Line) : (s.updLine n f).plant = s.plant := rfl
@[simp] theorem State.updLine_points (n : LineId) (f : Line → Line) : (s.updLine n f).points = s.points := rfl
@[simp] theorem State.updLine_windows (n : LineId) (f : Line → Line) : (s.updLine n f).windows = s.windows := rfl
@[simp] theorem State.updLine_envelopes (n : LineId) (f : Line → Line) : (s.updLine n f).envelopes = s.envelopes := rfl
@[simp] theorem State.updLine_book (n : LineId) (f : Line → Line) : (s.updLine n f).book = s.book := rfl
@[simp] theorem State.updLine_holes (n : LineId) (f : Line → Line) : (s.updLine n f).holes = s.holes := rfl
@[simp] theorem State.updLine_gauges (n : LineId) (f : Line → Line) : (s.updLine n f).gauges = s.gauges := rfl
@[simp] theorem State.updLine_responses (n : LineId) (f : Line → Line) : (s.updLine n f).responses = s.responses := rfl
@[simp] theorem State.updLine_loop (n : LineId) (f : Line → Line) : (s.updLine n f).loop = s.loop := rfl
@[simp] theorem State.updLine_config (n : LineId) (f : Line → Line) : (s.updLine n f).config = s.config := rfl
@[simp] theorem State.updLine_lineHolds (n : LineId) (f : Line → Line) : (s.updLine n f).lineHolds = s.lineHolds := rfl
@[simp] theorem State.updLine_plantHold (n : LineId) (f : Line → Line) : (s.updLine n f).plantHold = s.plantHold := rfl
@[simp] theorem State.updLine_results (n : LineId) (f : Line → Line) : (s.updLine n f).results = s.results := rfl
@[simp] theorem State.updLine_clock (n : LineId) (f : Line → Line) : (s.updLine n f).clock = s.clock := rfl
@[simp] theorem State.updLine_serial (n : LineId) (f : Line → Line) : (s.updLine n f).serial = s.serial := rfl
@[simp] theorem State.updLine_pending (n : LineId) (f : Line → Line) : (s.updLine n f).pending = s.pending := rfl

/-! ### setGauge -/

@[simp] theorem State.setGauge_lines (g : GaugeId) (q : Gauge) : (s.setGauge g q).lines = s.lines := rfl
@[simp] theorem State.setGauge_tankA (g : GaugeId) (q : Gauge) : (s.setGauge g q).tankA = s.tankA := rfl
@[simp] theorem State.setGauge_tankB (g : GaugeId) (q : Gauge) : (s.setGauge g q).tankB = s.tankB := rfl
@[simp] theorem State.setGauge_mixes (g : GaugeId) (q : Gauge) : (s.setGauge g q).mixes = s.mixes := rfl
@[simp] theorem State.setGauge_batchQueue (g : GaugeId) (q : Gauge) : (s.setGauge g q).batchQueue = s.batchQueue := rfl
@[simp] theorem State.setGauge_mixer (g : GaugeId) (q : Gauge) : (s.setGauge g q).mixer = s.mixer := rfl
@[simp] theorem State.setGauge_phaseTimer (g : GaugeId) (q : Gauge) : (s.setGauge g q).phaseTimer = s.phaseTimer := rfl
@[simp] theorem State.setGauge_plant (g : GaugeId) (q : Gauge) : (s.setGauge g q).plant = s.plant := rfl
@[simp] theorem State.setGauge_points (g : GaugeId) (q : Gauge) : (s.setGauge g q).points = s.points := rfl
@[simp] theorem State.setGauge_windows (g : GaugeId) (q : Gauge) : (s.setGauge g q).windows = s.windows := rfl
@[simp] theorem State.setGauge_envelopes (g : GaugeId) (q : Gauge) : (s.setGauge g q).envelopes = s.envelopes := rfl
@[simp] theorem State.setGauge_book (g : GaugeId) (q : Gauge) : (s.setGauge g q).book = s.book := rfl
@[simp] theorem State.setGauge_holes (g : GaugeId) (q : Gauge) : (s.setGauge g q).holes = s.holes := rfl
@[simp] theorem State.setGauge_responses (g : GaugeId) (q : Gauge) : (s.setGauge g q).responses = s.responses := rfl
@[simp] theorem State.setGauge_loop (g : GaugeId) (q : Gauge) : (s.setGauge g q).loop = s.loop := rfl
@[simp] theorem State.setGauge_config (g : GaugeId) (q : Gauge) : (s.setGauge g q).config = s.config := rfl
@[simp] theorem State.setGauge_lineHolds (g : GaugeId) (q : Gauge) : (s.setGauge g q).lineHolds = s.lineHolds := rfl
@[simp] theorem State.setGauge_plantHold (g : GaugeId) (q : Gauge) : (s.setGauge g q).plantHold = s.plantHold := rfl
@[simp] theorem State.setGauge_results (g : GaugeId) (q : Gauge) : (s.setGauge g q).results = s.results := rfl
@[simp] theorem State.setGauge_clock (g : GaugeId) (q : Gauge) : (s.setGauge g q).clock = s.clock := rfl
@[simp] theorem State.setGauge_serial (g : GaugeId) (q : Gauge) : (s.setGauge g q).serial = s.serial := rfl
@[simp] theorem State.setGauge_pending (g : GaugeId) (q : Gauge) : (s.setGauge g q).pending = s.pending := rfl

/-! ### updGauge -/

@[simp] theorem State.updGauge_lines (g : GaugeId) (f : Gauge → Gauge) : (s.updGauge g f).lines = s.lines := rfl
@[simp] theorem State.updGauge_tankA (g : GaugeId) (f : Gauge → Gauge) : (s.updGauge g f).tankA = s.tankA := rfl
@[simp] theorem State.updGauge_tankB (g : GaugeId) (f : Gauge → Gauge) : (s.updGauge g f).tankB = s.tankB := rfl
@[simp] theorem State.updGauge_mixes (g : GaugeId) (f : Gauge → Gauge) : (s.updGauge g f).mixes = s.mixes := rfl
@[simp] theorem State.updGauge_batchQueue (g : GaugeId) (f : Gauge → Gauge) : (s.updGauge g f).batchQueue = s.batchQueue := rfl
@[simp] theorem State.updGauge_mixer (g : GaugeId) (f : Gauge → Gauge) : (s.updGauge g f).mixer = s.mixer := rfl
@[simp] theorem State.updGauge_phaseTimer (g : GaugeId) (f : Gauge → Gauge) : (s.updGauge g f).phaseTimer = s.phaseTimer := rfl
@[simp] theorem State.updGauge_plant (g : GaugeId) (f : Gauge → Gauge) : (s.updGauge g f).plant = s.plant := rfl
@[simp] theorem State.updGauge_points (g : GaugeId) (f : Gauge → Gauge) : (s.updGauge g f).points = s.points := rfl
@[simp] theorem State.updGauge_windows (g : GaugeId) (f : Gauge → Gauge) : (s.updGauge g f).windows = s.windows := rfl
@[simp] theorem State.updGauge_envelopes (g : GaugeId) (f : Gauge → Gauge) : (s.updGauge g f).envelopes = s.envelopes := rfl
@[simp] theorem State.updGauge_book (g : GaugeId) (f : Gauge → Gauge) : (s.updGauge g f).book = s.book := rfl
@[simp] theorem State.updGauge_holes (g : GaugeId) (f : Gauge → Gauge) : (s.updGauge g f).holes = s.holes := rfl
@[simp] theorem State.updGauge_responses (g : GaugeId) (f : Gauge → Gauge) : (s.updGauge g f).responses = s.responses := rfl
@[simp] theorem State.updGauge_loop (g : GaugeId) (f : Gauge → Gauge) : (s.updGauge g f).loop = s.loop := rfl
@[simp] theorem State.updGauge_config (g : GaugeId) (f : Gauge → Gauge) : (s.updGauge g f).config = s.config := rfl
@[simp] theorem State.updGauge_lineHolds (g : GaugeId) (f : Gauge → Gauge) : (s.updGauge g f).lineHolds = s.lineHolds := rfl
@[simp] theorem State.updGauge_plantHold (g : GaugeId) (f : Gauge → Gauge) : (s.updGauge g f).plantHold = s.plantHold := rfl
@[simp] theorem State.updGauge_results (g : GaugeId) (f : Gauge → Gauge) : (s.updGauge g f).results = s.results := rfl
@[simp] theorem State.updGauge_clock (g : GaugeId) (f : Gauge → Gauge) : (s.updGauge g f).clock = s.clock := rfl
@[simp] theorem State.updGauge_serial (g : GaugeId) (f : Gauge → Gauge) : (s.updGauge g f).serial = s.serial := rfl
@[simp] theorem State.updGauge_pending (g : GaugeId) (f : Gauge → Gauge) : (s.updGauge g f).pending = s.pending := rfl

/-! ### lineEvent -/

@[simp] theorem State.lineEvent_lines (n : LineId) (k : EventKind) (v w : Option EventValue) : (s.lineEvent n k v w).lines = s.lines := rfl
@[simp] theorem State.lineEvent_tankA (n : LineId) (k : EventKind) (v w : Option EventValue) : (s.lineEvent n k v w).tankA = s.tankA := rfl
@[simp] theorem State.lineEvent_tankB (n : LineId) (k : EventKind) (v w : Option EventValue) : (s.lineEvent n k v w).tankB = s.tankB := rfl
@[simp] theorem State.lineEvent_mixes (n : LineId) (k : EventKind) (v w : Option EventValue) : (s.lineEvent n k v w).mixes = s.mixes := rfl
@[simp] theorem State.lineEvent_batchQueue (n : LineId) (k : EventKind) (v w : Option EventValue) : (s.lineEvent n k v w).batchQueue = s.batchQueue := rfl
@[simp] theorem State.lineEvent_mixer (n : LineId) (k : EventKind) (v w : Option EventValue) : (s.lineEvent n k v w).mixer = s.mixer := rfl
@[simp] theorem State.lineEvent_phaseTimer (n : LineId) (k : EventKind) (v w : Option EventValue) : (s.lineEvent n k v w).phaseTimer = s.phaseTimer := rfl
@[simp] theorem State.lineEvent_plant (n : LineId) (k : EventKind) (v w : Option EventValue) : (s.lineEvent n k v w).plant = s.plant := rfl
@[simp] theorem State.lineEvent_points (n : LineId) (k : EventKind) (v w : Option EventValue) : (s.lineEvent n k v w).points = s.points := rfl
@[simp] theorem State.lineEvent_windows (n : LineId) (k : EventKind) (v w : Option EventValue) : (s.lineEvent n k v w).windows = s.windows := rfl
@[simp] theorem State.lineEvent_envelopes (n : LineId) (k : EventKind) (v w : Option EventValue) : (s.lineEvent n k v w).envelopes = s.envelopes := rfl
@[simp] theorem State.lineEvent_book (n : LineId) (k : EventKind) (v w : Option EventValue) : (s.lineEvent n k v w).book = s.book := rfl
@[simp] theorem State.lineEvent_holes (n : LineId) (k : EventKind) (v w : Option EventValue) : (s.lineEvent n k v w).holes = s.holes := rfl
@[simp] theorem State.lineEvent_gauges (n : LineId) (k : EventKind) (v w : Option EventValue) : (s.lineEvent n k v w).gauges = s.gauges := rfl
@[simp] theorem State.lineEvent_responses (n : LineId) (k : EventKind) (v w : Option EventValue) : (s.lineEvent n k v w).responses = s.responses := rfl
@[simp] theorem State.lineEvent_loop (n : LineId) (k : EventKind) (v w : Option EventValue) : (s.lineEvent n k v w).loop = s.loop := rfl
@[simp] theorem State.lineEvent_config (n : LineId) (k : EventKind) (v w : Option EventValue) : (s.lineEvent n k v w).config = s.config := rfl
@[simp] theorem State.lineEvent_plantHold (n : LineId) (k : EventKind) (v w : Option EventValue) : (s.lineEvent n k v w).plantHold = s.plantHold := rfl
@[simp] theorem State.lineEvent_results (n : LineId) (k : EventKind) (v w : Option EventValue) : (s.lineEvent n k v w).results = s.results := rfl
@[simp] theorem State.lineEvent_clock (n : LineId) (k : EventKind) (v w : Option EventValue) : (s.lineEvent n k v w).clock = s.clock := rfl
@[simp] theorem State.lineEvent_serial (n : LineId) (k : EventKind) (v w : Option EventValue) : (s.lineEvent n k v w).serial = s.serial := rfl
@[simp] theorem State.lineEvent_pending (n : LineId) (k : EventKind) (v w : Option EventValue) : (s.lineEvent n k v w).pending = s.pending := rfl

/-! ### plantEvent -/

@[simp] theorem State.plantEvent_lines (k : EventKind) (u : Option Subject) (v w : Option EventValue) : (s.plantEvent k u v w).lines = s.lines := rfl
@[simp] theorem State.plantEvent_tankA (k : EventKind) (u : Option Subject) (v w : Option EventValue) : (s.plantEvent k u v w).tankA = s.tankA := rfl
@[simp] theorem State.plantEvent_tankB (k : EventKind) (u : Option Subject) (v w : Option EventValue) : (s.plantEvent k u v w).tankB = s.tankB := rfl
@[simp] theorem State.plantEvent_mixes (k : EventKind) (u : Option Subject) (v w : Option EventValue) : (s.plantEvent k u v w).mixes = s.mixes := rfl
@[simp] theorem State.plantEvent_batchQueue (k : EventKind) (u : Option Subject) (v w : Option EventValue) : (s.plantEvent k u v w).batchQueue = s.batchQueue := rfl
@[simp] theorem State.plantEvent_mixer (k : EventKind) (u : Option Subject) (v w : Option EventValue) : (s.plantEvent k u v w).mixer = s.mixer := rfl
@[simp] theorem State.plantEvent_phaseTimer (k : EventKind) (u : Option Subject) (v w : Option EventValue) : (s.plantEvent k u v w).phaseTimer = s.phaseTimer := rfl
@[simp] theorem State.plantEvent_plant (k : EventKind) (u : Option Subject) (v w : Option EventValue) : (s.plantEvent k u v w).plant = s.plant := rfl
@[simp] theorem State.plantEvent_points (k : EventKind) (u : Option Subject) (v w : Option EventValue) : (s.plantEvent k u v w).points = s.points := rfl
@[simp] theorem State.plantEvent_windows (k : EventKind) (u : Option Subject) (v w : Option EventValue) : (s.plantEvent k u v w).windows = s.windows := rfl
@[simp] theorem State.plantEvent_envelopes (k : EventKind) (u : Option Subject) (v w : Option EventValue) : (s.plantEvent k u v w).envelopes = s.envelopes := rfl
@[simp] theorem State.plantEvent_book (k : EventKind) (u : Option Subject) (v w : Option EventValue) : (s.plantEvent k u v w).book = s.book := rfl
@[simp] theorem State.plantEvent_holes (k : EventKind) (u : Option Subject) (v w : Option EventValue) : (s.plantEvent k u v w).holes = s.holes := rfl
@[simp] theorem State.plantEvent_gauges (k : EventKind) (u : Option Subject) (v w : Option EventValue) : (s.plantEvent k u v w).gauges = s.gauges := rfl
@[simp] theorem State.plantEvent_responses (k : EventKind) (u : Option Subject) (v w : Option EventValue) : (s.plantEvent k u v w).responses = s.responses := rfl
@[simp] theorem State.plantEvent_loop (k : EventKind) (u : Option Subject) (v w : Option EventValue) : (s.plantEvent k u v w).loop = s.loop := rfl
@[simp] theorem State.plantEvent_config (k : EventKind) (u : Option Subject) (v w : Option EventValue) : (s.plantEvent k u v w).config = s.config := rfl
@[simp] theorem State.plantEvent_lineHolds (k : EventKind) (u : Option Subject) (v w : Option EventValue) : (s.plantEvent k u v w).lineHolds = s.lineHolds := rfl
@[simp] theorem State.plantEvent_results (k : EventKind) (u : Option Subject) (v w : Option EventValue) : (s.plantEvent k u v w).results = s.results := rfl
@[simp] theorem State.plantEvent_clock (k : EventKind) (u : Option Subject) (v w : Option EventValue) : (s.plantEvent k u v w).clock = s.clock := rfl
@[simp] theorem State.plantEvent_serial (k : EventKind) (u : Option Subject) (v w : Option EventValue) : (s.plantEvent k u v w).serial = s.serial := rfl
@[simp] theorem State.plantEvent_pending (k : EventKind) (u : Option Subject) (v w : Option EventValue) : (s.plantEvent k u v w).pending = s.pending := rfl

/-! ### answer -/

@[simp] theorem State.answer_lines (r : Reply) : (s.answer r).lines = s.lines := rfl
@[simp] theorem State.answer_tankA (r : Reply) : (s.answer r).tankA = s.tankA := rfl
@[simp] theorem State.answer_tankB (r : Reply) : (s.answer r).tankB = s.tankB := rfl
@[simp] theorem State.answer_mixes (r : Reply) : (s.answer r).mixes = s.mixes := rfl
@[simp] theorem State.answer_batchQueue (r : Reply) : (s.answer r).batchQueue = s.batchQueue := rfl
@[simp] theorem State.answer_mixer (r : Reply) : (s.answer r).mixer = s.mixer := rfl
@[simp] theorem State.answer_phaseTimer (r : Reply) : (s.answer r).phaseTimer = s.phaseTimer := rfl
@[simp] theorem State.answer_plant (r : Reply) : (s.answer r).plant = s.plant := rfl
@[simp] theorem State.answer_points (r : Reply) : (s.answer r).points = s.points := rfl
@[simp] theorem State.answer_windows (r : Reply) : (s.answer r).windows = s.windows := rfl
@[simp] theorem State.answer_envelopes (r : Reply) : (s.answer r).envelopes = s.envelopes := rfl
@[simp] theorem State.answer_book (r : Reply) : (s.answer r).book = s.book := rfl
@[simp] theorem State.answer_holes (r : Reply) : (s.answer r).holes = s.holes := rfl
@[simp] theorem State.answer_gauges (r : Reply) : (s.answer r).gauges = s.gauges := rfl
@[simp] theorem State.answer_responses (r : Reply) : (s.answer r).responses = s.responses := rfl
@[simp] theorem State.answer_loop (r : Reply) : (s.answer r).loop = s.loop := rfl
@[simp] theorem State.answer_config (r : Reply) : (s.answer r).config = s.config := rfl
@[simp] theorem State.answer_lineHolds (r : Reply) : (s.answer r).lineHolds = s.lineHolds := rfl
@[simp] theorem State.answer_plantHold (r : Reply) : (s.answer r).plantHold = s.plantHold := rfl
@[simp] theorem State.answer_results (r : Reply) : (s.answer r).results = s.results := rfl
@[simp] theorem State.answer_clock (r : Reply) : (s.answer r).clock = s.clock := rfl
@[simp] theorem State.answer_pending (r : Reply) : (s.answer r).pending = s.pending := rfl

/-! ### refuse -/

@[simp] theorem State.refuse_lines (r : Reason) : (s.refuse r).lines = s.lines := rfl
@[simp] theorem State.refuse_tankA (r : Reason) : (s.refuse r).tankA = s.tankA := rfl
@[simp] theorem State.refuse_tankB (r : Reason) : (s.refuse r).tankB = s.tankB := rfl
@[simp] theorem State.refuse_mixes (r : Reason) : (s.refuse r).mixes = s.mixes := rfl
@[simp] theorem State.refuse_batchQueue (r : Reason) : (s.refuse r).batchQueue = s.batchQueue := rfl
@[simp] theorem State.refuse_mixer (r : Reason) : (s.refuse r).mixer = s.mixer := rfl
@[simp] theorem State.refuse_phaseTimer (r : Reason) : (s.refuse r).phaseTimer = s.phaseTimer := rfl
@[simp] theorem State.refuse_plant (r : Reason) : (s.refuse r).plant = s.plant := rfl
@[simp] theorem State.refuse_points (r : Reason) : (s.refuse r).points = s.points := rfl
@[simp] theorem State.refuse_windows (r : Reason) : (s.refuse r).windows = s.windows := rfl
@[simp] theorem State.refuse_envelopes (r : Reason) : (s.refuse r).envelopes = s.envelopes := rfl
@[simp] theorem State.refuse_book (r : Reason) : (s.refuse r).book = s.book := rfl
@[simp] theorem State.refuse_holes (r : Reason) : (s.refuse r).holes = s.holes := rfl
@[simp] theorem State.refuse_gauges (r : Reason) : (s.refuse r).gauges = s.gauges := rfl
@[simp] theorem State.refuse_responses (r : Reason) : (s.refuse r).responses = s.responses := rfl
@[simp] theorem State.refuse_loop (r : Reason) : (s.refuse r).loop = s.loop := rfl
@[simp] theorem State.refuse_config (r : Reason) : (s.refuse r).config = s.config := rfl
@[simp] theorem State.refuse_lineHolds (r : Reason) : (s.refuse r).lineHolds = s.lineHolds := rfl
@[simp] theorem State.refuse_plantHold (r : Reason) : (s.refuse r).plantHold = s.plantHold := rfl
@[simp] theorem State.refuse_results (r : Reason) : (s.refuse r).results = s.results := rfl
@[simp] theorem State.refuse_clock (r : Reason) : (s.refuse r).clock = s.clock := rfl
@[simp] theorem State.refuse_pending (r : Reason) : (s.refuse r).pending = s.pending := rfl

/-! ### leaveQueues -/

@[simp] theorem State.leaveQueues_lines (n : LineId) : (s.leaveQueues n).lines = s.lines := rfl
@[simp] theorem State.leaveQueues_mixes (n : LineId) : (s.leaveQueues n).mixes = s.mixes := rfl
@[simp] theorem State.leaveQueues_batchQueue (n : LineId) : (s.leaveQueues n).batchQueue = s.batchQueue := rfl
@[simp] theorem State.leaveQueues_mixer (n : LineId) : (s.leaveQueues n).mixer = s.mixer := rfl
@[simp] theorem State.leaveQueues_phaseTimer (n : LineId) : (s.leaveQueues n).phaseTimer = s.phaseTimer := rfl
@[simp] theorem State.leaveQueues_plant (n : LineId) : (s.leaveQueues n).plant = s.plant := rfl
@[simp] theorem State.leaveQueues_points (n : LineId) : (s.leaveQueues n).points = s.points := rfl
@[simp] theorem State.leaveQueues_windows (n : LineId) : (s.leaveQueues n).windows = s.windows := rfl
@[simp] theorem State.leaveQueues_envelopes (n : LineId) : (s.leaveQueues n).envelopes = s.envelopes := rfl
@[simp] theorem State.leaveQueues_book (n : LineId) : (s.leaveQueues n).book = s.book := rfl
@[simp] theorem State.leaveQueues_holes (n : LineId) : (s.leaveQueues n).holes = s.holes := rfl
@[simp] theorem State.leaveQueues_gauges (n : LineId) : (s.leaveQueues n).gauges = s.gauges := rfl
@[simp] theorem State.leaveQueues_responses (n : LineId) : (s.leaveQueues n).responses = s.responses := rfl
@[simp] theorem State.leaveQueues_loop (n : LineId) : (s.leaveQueues n).loop = s.loop := rfl
@[simp] theorem State.leaveQueues_config (n : LineId) : (s.leaveQueues n).config = s.config := rfl
@[simp] theorem State.leaveQueues_lineHolds (n : LineId) : (s.leaveQueues n).lineHolds = s.lineHolds := rfl
@[simp] theorem State.leaveQueues_plantHold (n : LineId) : (s.leaveQueues n).plantHold = s.plantHold := rfl
@[simp] theorem State.leaveQueues_results (n : LineId) : (s.leaveQueues n).results = s.results := rfl
@[simp] theorem State.leaveQueues_clock (n : LineId) : (s.leaveQueues n).clock = s.clock := rfl
@[simp] theorem State.leaveQueues_serial (n : LineId) : (s.leaveQueues n).serial = s.serial := rfl
@[simp] theorem State.leaveQueues_pending (n : LineId) : (s.leaveQueues n).pending = s.pending := rfl

/-! ### withdraw -/

@[simp] theorem State.withdraw_lines : (s.withdraw).lines = s.lines := rfl
@[simp] theorem State.withdraw_tankA : (s.withdraw).tankA = s.tankA := rfl
@[simp] theorem State.withdraw_tankB : (s.withdraw).tankB = s.tankB := rfl
@[simp] theorem State.withdraw_mixes : (s.withdraw).mixes = s.mixes := rfl
@[simp] theorem State.withdraw_mixer : (s.withdraw).mixer = s.mixer := rfl
@[simp] theorem State.withdraw_phaseTimer : (s.withdraw).phaseTimer = s.phaseTimer := rfl
@[simp] theorem State.withdraw_plant : (s.withdraw).plant = s.plant := rfl
@[simp] theorem State.withdraw_points : (s.withdraw).points = s.points := rfl
@[simp] theorem State.withdraw_windows : (s.withdraw).windows = s.windows := rfl
@[simp] theorem State.withdraw_envelopes : (s.withdraw).envelopes = s.envelopes := rfl
@[simp] theorem State.withdraw_book : (s.withdraw).book = s.book := rfl
@[simp] theorem State.withdraw_holes : (s.withdraw).holes = s.holes := rfl
@[simp] theorem State.withdraw_gauges : (s.withdraw).gauges = s.gauges := rfl
@[simp] theorem State.withdraw_responses : (s.withdraw).responses = s.responses := rfl
@[simp] theorem State.withdraw_loop : (s.withdraw).loop = s.loop := rfl
@[simp] theorem State.withdraw_config : (s.withdraw).config = s.config := rfl
@[simp] theorem State.withdraw_lineHolds : (s.withdraw).lineHolds = s.lineHolds := rfl
@[simp] theorem State.withdraw_plantHold : (s.withdraw).plantHold = s.plantHold := rfl
@[simp] theorem State.withdraw_results : (s.withdraw).results = s.results := rfl
@[simp] theorem State.withdraw_clock : (s.withdraw).clock = s.clock := rfl
@[simp] theorem State.withdraw_serial : (s.withdraw).serial = s.serial := rfl
@[simp] theorem State.withdraw_pending : (s.withdraw).pending = s.pending := rfl

/-! ### updRecord -/

@[simp] theorem State.updRecord_lines (h : Tag) (k : Nat) (f : StageRecord → StageRecord) : (s.updRecord h k f).lines = s.lines := rfl
@[simp] theorem State.updRecord_tankA (h : Tag) (k : Nat) (f : StageRecord → StageRecord) : (s.updRecord h k f).tankA = s.tankA := rfl
@[simp] theorem State.updRecord_tankB (h : Tag) (k : Nat) (f : StageRecord → StageRecord) : (s.updRecord h k f).tankB = s.tankB := rfl
@[simp] theorem State.updRecord_mixes (h : Tag) (k : Nat) (f : StageRecord → StageRecord) : (s.updRecord h k f).mixes = s.mixes := rfl
@[simp] theorem State.updRecord_batchQueue (h : Tag) (k : Nat) (f : StageRecord → StageRecord) : (s.updRecord h k f).batchQueue = s.batchQueue := rfl
@[simp] theorem State.updRecord_mixer (h : Tag) (k : Nat) (f : StageRecord → StageRecord) : (s.updRecord h k f).mixer = s.mixer := rfl
@[simp] theorem State.updRecord_phaseTimer (h : Tag) (k : Nat) (f : StageRecord → StageRecord) : (s.updRecord h k f).phaseTimer = s.phaseTimer := rfl
@[simp] theorem State.updRecord_plant (h : Tag) (k : Nat) (f : StageRecord → StageRecord) : (s.updRecord h k f).plant = s.plant := rfl
@[simp] theorem State.updRecord_points (h : Tag) (k : Nat) (f : StageRecord → StageRecord) : (s.updRecord h k f).points = s.points := rfl
@[simp] theorem State.updRecord_windows (h : Tag) (k : Nat) (f : StageRecord → StageRecord) : (s.updRecord h k f).windows = s.windows := rfl
@[simp] theorem State.updRecord_envelopes (h : Tag) (k : Nat) (f : StageRecord → StageRecord) : (s.updRecord h k f).envelopes = s.envelopes := rfl
@[simp] theorem State.updRecord_holes (h : Tag) (k : Nat) (f : StageRecord → StageRecord) : (s.updRecord h k f).holes = s.holes := rfl
@[simp] theorem State.updRecord_gauges (h : Tag) (k : Nat) (f : StageRecord → StageRecord) : (s.updRecord h k f).gauges = s.gauges := rfl
@[simp] theorem State.updRecord_responses (h : Tag) (k : Nat) (f : StageRecord → StageRecord) : (s.updRecord h k f).responses = s.responses := rfl
@[simp] theorem State.updRecord_loop (h : Tag) (k : Nat) (f : StageRecord → StageRecord) : (s.updRecord h k f).loop = s.loop := rfl
@[simp] theorem State.updRecord_config (h : Tag) (k : Nat) (f : StageRecord → StageRecord) : (s.updRecord h k f).config = s.config := rfl
@[simp] theorem State.updRecord_lineHolds (h : Tag) (k : Nat) (f : StageRecord → StageRecord) : (s.updRecord h k f).lineHolds = s.lineHolds := rfl
@[simp] theorem State.updRecord_plantHold (h : Tag) (k : Nat) (f : StageRecord → StageRecord) : (s.updRecord h k f).plantHold = s.plantHold := rfl
@[simp] theorem State.updRecord_results (h : Tag) (k : Nat) (f : StageRecord → StageRecord) : (s.updRecord h k f).results = s.results := rfl
@[simp] theorem State.updRecord_clock (h : Tag) (k : Nat) (f : StageRecord → StageRecord) : (s.updRecord h k f).clock = s.clock := rfl
@[simp] theorem State.updRecord_serial (h : Tag) (k : Nat) (f : StageRecord → StageRecord) : (s.updRecord h k f).serial = s.serial := rfl
@[simp] theorem State.updRecord_pending (h : Tag) (k : Nat) (f : StageRecord → StageRecord) : (s.updRecord h k f).pending = s.pending := rfl

/-! ### setMark -/

@[simp] theorem State.setMark_lines (h : Tag) (k : Nat) : (s.setMark h k).lines = s.lines := rfl
@[simp] theorem State.setMark_tankA (h : Tag) (k : Nat) : (s.setMark h k).tankA = s.tankA := rfl
@[simp] theorem State.setMark_tankB (h : Tag) (k : Nat) : (s.setMark h k).tankB = s.tankB := rfl
@[simp] theorem State.setMark_mixes (h : Tag) (k : Nat) : (s.setMark h k).mixes = s.mixes := rfl
@[simp] theorem State.setMark_batchQueue (h : Tag) (k : Nat) : (s.setMark h k).batchQueue = s.batchQueue := rfl
@[simp] theorem State.setMark_mixer (h : Tag) (k : Nat) : (s.setMark h k).mixer = s.mixer := rfl
@[simp] theorem State.setMark_phaseTimer (h : Tag) (k : Nat) : (s.setMark h k).phaseTimer = s.phaseTimer := rfl
@[simp] theorem State.setMark_plant (h : Tag) (k : Nat) : (s.setMark h k).plant = s.plant := rfl
@[simp] theorem State.setMark_points (h : Tag) (k : Nat) : (s.setMark h k).points = s.points := rfl
@[simp] theorem State.setMark_windows (h : Tag) (k : Nat) : (s.setMark h k).windows = s.windows := rfl
@[simp] theorem State.setMark_envelopes (h : Tag) (k : Nat) : (s.setMark h k).envelopes = s.envelopes := rfl
@[simp] theorem State.setMark_book (h : Tag) (k : Nat) : (s.setMark h k).book = s.book := rfl
@[simp] theorem State.setMark_gauges (h : Tag) (k : Nat) : (s.setMark h k).gauges = s.gauges := rfl
@[simp] theorem State.setMark_responses (h : Tag) (k : Nat) : (s.setMark h k).responses = s.responses := rfl
@[simp] theorem State.setMark_loop (h : Tag) (k : Nat) : (s.setMark h k).loop = s.loop := rfl
@[simp] theorem State.setMark_config (h : Tag) (k : Nat) : (s.setMark h k).config = s.config := rfl
@[simp] theorem State.setMark_lineHolds (h : Tag) (k : Nat) : (s.setMark h k).lineHolds = s.lineHolds := rfl
@[simp] theorem State.setMark_plantHold (h : Tag) (k : Nat) : (s.setMark h k).plantHold = s.plantHold := rfl
@[simp] theorem State.setMark_results (h : Tag) (k : Nat) : (s.setMark h k).results = s.results := rfl
@[simp] theorem State.setMark_clock (h : Tag) (k : Nat) : (s.setMark h k).clock = s.clock := rfl
@[simp] theorem State.setMark_serial (h : Tag) (k : Nat) : (s.setMark h k).serial = s.serial := rfl
@[simp] theorem State.setMark_pending (h : Tag) (k : Nat) : (s.setMark h k).pending = s.pending := rfl

/-! ### setTank -/

@[simp] theorem State.setTank_lines (t : AgitatorId) (k : Tank) : (s.setTank t k).lines = s.lines := by cases t <;> rfl
@[simp] theorem State.setTank_mixes (t : AgitatorId) (k : Tank) : (s.setTank t k).mixes = s.mixes := by cases t <;> rfl
@[simp] theorem State.setTank_batchQueue (t : AgitatorId) (k : Tank) : (s.setTank t k).batchQueue = s.batchQueue := by cases t <;> rfl
@[simp] theorem State.setTank_mixer (t : AgitatorId) (k : Tank) : (s.setTank t k).mixer = s.mixer := by cases t <;> rfl
@[simp] theorem State.setTank_phaseTimer (t : AgitatorId) (k : Tank) : (s.setTank t k).phaseTimer = s.phaseTimer := by cases t <;> rfl
@[simp] theorem State.setTank_plant (t : AgitatorId) (k : Tank) : (s.setTank t k).plant = s.plant := by cases t <;> rfl
@[simp] theorem State.setTank_points (t : AgitatorId) (k : Tank) : (s.setTank t k).points = s.points := by cases t <;> rfl
@[simp] theorem State.setTank_windows (t : AgitatorId) (k : Tank) : (s.setTank t k).windows = s.windows := by cases t <;> rfl
@[simp] theorem State.setTank_envelopes (t : AgitatorId) (k : Tank) : (s.setTank t k).envelopes = s.envelopes := by cases t <;> rfl
@[simp] theorem State.setTank_book (t : AgitatorId) (k : Tank) : (s.setTank t k).book = s.book := by cases t <;> rfl
@[simp] theorem State.setTank_holes (t : AgitatorId) (k : Tank) : (s.setTank t k).holes = s.holes := by cases t <;> rfl
@[simp] theorem State.setTank_gauges (t : AgitatorId) (k : Tank) : (s.setTank t k).gauges = s.gauges := by cases t <;> rfl
@[simp] theorem State.setTank_responses (t : AgitatorId) (k : Tank) : (s.setTank t k).responses = s.responses := by cases t <;> rfl
@[simp] theorem State.setTank_loop (t : AgitatorId) (k : Tank) : (s.setTank t k).loop = s.loop := by cases t <;> rfl
@[simp] theorem State.setTank_config (t : AgitatorId) (k : Tank) : (s.setTank t k).config = s.config := by cases t <;> rfl
@[simp] theorem State.setTank_lineHolds (t : AgitatorId) (k : Tank) : (s.setTank t k).lineHolds = s.lineHolds := by cases t <;> rfl
@[simp] theorem State.setTank_plantHold (t : AgitatorId) (k : Tank) : (s.setTank t k).plantHold = s.plantHold := by cases t <;> rfl
@[simp] theorem State.setTank_results (t : AgitatorId) (k : Tank) : (s.setTank t k).results = s.results := by cases t <;> rfl
@[simp] theorem State.setTank_clock (t : AgitatorId) (k : Tank) : (s.setTank t k).clock = s.clock := by cases t <;> rfl
@[simp] theorem State.setTank_serial (t : AgitatorId) (k : Tank) : (s.setTank t k).serial = s.serial := by cases t <;> rfl
@[simp] theorem State.setTank_pending (t : AgitatorId) (k : Tank) : (s.setTank t k).pending = s.pending := by cases t <;> rfl

/-! ### updTank -/

@[simp] theorem State.updTank_lines (t : AgitatorId) (f : Tank → Tank) : (s.updTank t f).lines = s.lines := by cases t <;> rfl
@[simp] theorem State.updTank_mixes (t : AgitatorId) (f : Tank → Tank) : (s.updTank t f).mixes = s.mixes := by cases t <;> rfl
@[simp] theorem State.updTank_batchQueue (t : AgitatorId) (f : Tank → Tank) : (s.updTank t f).batchQueue = s.batchQueue := by cases t <;> rfl
@[simp] theorem State.updTank_mixer (t : AgitatorId) (f : Tank → Tank) : (s.updTank t f).mixer = s.mixer := by cases t <;> rfl
@[simp] theorem State.updTank_phaseTimer (t : AgitatorId) (f : Tank → Tank) : (s.updTank t f).phaseTimer = s.phaseTimer := by cases t <;> rfl
@[simp] theorem State.updTank_plant (t : AgitatorId) (f : Tank → Tank) : (s.updTank t f).plant = s.plant := by cases t <;> rfl
@[simp] theorem State.updTank_points (t : AgitatorId) (f : Tank → Tank) : (s.updTank t f).points = s.points := by cases t <;> rfl
@[simp] theorem State.updTank_windows (t : AgitatorId) (f : Tank → Tank) : (s.updTank t f).windows = s.windows := by cases t <;> rfl
@[simp] theorem State.updTank_envelopes (t : AgitatorId) (f : Tank → Tank) : (s.updTank t f).envelopes = s.envelopes := by cases t <;> rfl
@[simp] theorem State.updTank_book (t : AgitatorId) (f : Tank → Tank) : (s.updTank t f).book = s.book := by cases t <;> rfl
@[simp] theorem State.updTank_holes (t : AgitatorId) (f : Tank → Tank) : (s.updTank t f).holes = s.holes := by cases t <;> rfl
@[simp] theorem State.updTank_gauges (t : AgitatorId) (f : Tank → Tank) : (s.updTank t f).gauges = s.gauges := by cases t <;> rfl
@[simp] theorem State.updTank_responses (t : AgitatorId) (f : Tank → Tank) : (s.updTank t f).responses = s.responses := by cases t <;> rfl
@[simp] theorem State.updTank_loop (t : AgitatorId) (f : Tank → Tank) : (s.updTank t f).loop = s.loop := by cases t <;> rfl
@[simp] theorem State.updTank_config (t : AgitatorId) (f : Tank → Tank) : (s.updTank t f).config = s.config := by cases t <;> rfl
@[simp] theorem State.updTank_lineHolds (t : AgitatorId) (f : Tank → Tank) : (s.updTank t f).lineHolds = s.lineHolds := by cases t <;> rfl
@[simp] theorem State.updTank_plantHold (t : AgitatorId) (f : Tank → Tank) : (s.updTank t f).plantHold = s.plantHold := by cases t <;> rfl
@[simp] theorem State.updTank_results (t : AgitatorId) (f : Tank → Tank) : (s.updTank t f).results = s.results := by cases t <;> rfl
@[simp] theorem State.updTank_clock (t : AgitatorId) (f : Tank → Tank) : (s.updTank t f).clock = s.clock := by cases t <;> rfl
@[simp] theorem State.updTank_serial (t : AgitatorId) (f : Tank → Tank) : (s.updTank t f).serial = s.serial := by cases t <;> rfl
@[simp] theorem State.updTank_pending (t : AgitatorId) (f : Tank → Tank) : (s.updTank t f).pending = s.pending := by cases t <;> rfl

/-! ### joinQueue -/

@[simp] theorem State.joinQueue_lines (n : LineId) (t : AgitatorId) : (s.joinQueue n t).lines = s.lines := by cases t <;> rfl
@[simp] theorem State.joinQueue_mixes (n : LineId) (t : AgitatorId) : (s.joinQueue n t).mixes = s.mixes := by cases t <;> rfl
@[simp] theorem State.joinQueue_batchQueue (n : LineId) (t : AgitatorId) : (s.joinQueue n t).batchQueue = s.batchQueue := by cases t <;> rfl
@[simp] theorem State.joinQueue_mixer (n : LineId) (t : AgitatorId) : (s.joinQueue n t).mixer = s.mixer := by cases t <;> rfl
@[simp] theorem State.joinQueue_phaseTimer (n : LineId) (t : AgitatorId) : (s.joinQueue n t).phaseTimer = s.phaseTimer := by cases t <;> rfl
@[simp] theorem State.joinQueue_plant (n : LineId) (t : AgitatorId) : (s.joinQueue n t).plant = s.plant := by cases t <;> rfl
@[simp] theorem State.joinQueue_points (n : LineId) (t : AgitatorId) : (s.joinQueue n t).points = s.points := by cases t <;> rfl
@[simp] theorem State.joinQueue_windows (n : LineId) (t : AgitatorId) : (s.joinQueue n t).windows = s.windows := by cases t <;> rfl
@[simp] theorem State.joinQueue_envelopes (n : LineId) (t : AgitatorId) : (s.joinQueue n t).envelopes = s.envelopes := by cases t <;> rfl
@[simp] theorem State.joinQueue_book (n : LineId) (t : AgitatorId) : (s.joinQueue n t).book = s.book := by cases t <;> rfl
@[simp] theorem State.joinQueue_holes (n : LineId) (t : AgitatorId) : (s.joinQueue n t).holes = s.holes := by cases t <;> rfl
@[simp] theorem State.joinQueue_gauges (n : LineId) (t : AgitatorId) : (s.joinQueue n t).gauges = s.gauges := by cases t <;> rfl
@[simp] theorem State.joinQueue_responses (n : LineId) (t : AgitatorId) : (s.joinQueue n t).responses = s.responses := by cases t <;> rfl
@[simp] theorem State.joinQueue_loop (n : LineId) (t : AgitatorId) : (s.joinQueue n t).loop = s.loop := by cases t <;> rfl
@[simp] theorem State.joinQueue_config (n : LineId) (t : AgitatorId) : (s.joinQueue n t).config = s.config := by cases t <;> rfl
@[simp] theorem State.joinQueue_lineHolds (n : LineId) (t : AgitatorId) : (s.joinQueue n t).lineHolds = s.lineHolds := by cases t <;> rfl
@[simp] theorem State.joinQueue_plantHold (n : LineId) (t : AgitatorId) : (s.joinQueue n t).plantHold = s.plantHold := by cases t <;> rfl
@[simp] theorem State.joinQueue_results (n : LineId) (t : AgitatorId) : (s.joinQueue n t).results = s.results := by cases t <;> rfl
@[simp] theorem State.joinQueue_clock (n : LineId) (t : AgitatorId) : (s.joinQueue n t).clock = s.clock := by cases t <;> rfl
@[simp] theorem State.joinQueue_serial (n : LineId) (t : AgitatorId) : (s.joinQueue n t).serial = s.serial := by cases t <;> rfl
@[simp] theorem State.joinQueue_pending (n : LineId) (t : AgitatorId) : (s.joinQueue n t).pending = s.pending := by cases t <;> rfl

/-! ### emptyBuffer -/

@[simp] theorem State.emptyBuffer_lines : s.emptyBuffer.lines = s.lines := rfl
@[simp] theorem State.emptyBuffer_tankA : s.emptyBuffer.tankA = s.tankA := rfl
@[simp] theorem State.emptyBuffer_tankB : s.emptyBuffer.tankB = s.tankB := rfl
@[simp] theorem State.emptyBuffer_mixes : s.emptyBuffer.mixes = s.mixes := rfl
@[simp] theorem State.emptyBuffer_batchQueue : s.emptyBuffer.batchQueue = s.batchQueue := rfl
@[simp] theorem State.emptyBuffer_mixer : s.emptyBuffer.mixer = s.mixer := rfl
@[simp] theorem State.emptyBuffer_phaseTimer : s.emptyBuffer.phaseTimer = s.phaseTimer := rfl
@[simp] theorem State.emptyBuffer_plant : s.emptyBuffer.plant = s.plant := rfl
@[simp] theorem State.emptyBuffer_points : s.emptyBuffer.points = s.points := rfl
@[simp] theorem State.emptyBuffer_windows : s.emptyBuffer.windows = s.windows := rfl
@[simp] theorem State.emptyBuffer_envelopes : s.emptyBuffer.envelopes = s.envelopes := rfl
@[simp] theorem State.emptyBuffer_book : s.emptyBuffer.book = s.book := rfl
@[simp] theorem State.emptyBuffer_holes : s.emptyBuffer.holes = s.holes := rfl
@[simp] theorem State.emptyBuffer_gauges : s.emptyBuffer.gauges = s.gauges := rfl
@[simp] theorem State.emptyBuffer_responses : s.emptyBuffer.responses = s.responses := rfl
@[simp] theorem State.emptyBuffer_loop : s.emptyBuffer.loop = s.loop := rfl
@[simp] theorem State.emptyBuffer_config : s.emptyBuffer.config = s.config := rfl
@[simp] theorem State.emptyBuffer_lineHolds : s.emptyBuffer.lineHolds = s.lineHolds := rfl
@[simp] theorem State.emptyBuffer_plantHold : s.emptyBuffer.plantHold = s.plantHold := rfl
@[simp] theorem State.emptyBuffer_results : s.emptyBuffer.results = s.results := rfl
@[simp] theorem State.emptyBuffer_clock : s.emptyBuffer.clock = s.clock := rfl
@[simp] theorem State.emptyBuffer_pending : s.emptyBuffer.pending = s.pending := rfl
@[simp] theorem State.emptyBuffer_buffer : s.emptyBuffer.serial.buffer = [] := rfl
@[simp] theorem State.emptyBuffer_reply : s.emptyBuffer.serial.reply = s.serial.reply := rfl
@[simp] theorem State.emptyBuffer_held : s.emptyBuffer.serial.held = s.serial.held := rfl
@[simp] theorem State.emptyBuffer_phase : s.emptyBuffer.serial.phase = s.serial.phase := rfl

end Sys2Proof.Machine
end

