-- ==== Sys2Proof/Laws/Ops.lean ====
section
/-! SUPPORT. What each named operation does, once for each: reading back what was written, and every case of an order's
judgement. -/

namespace Sys2Proof.Machine

variable (s : State)

/-! ### Reading back a line -/

@[simp] theorem State.line_setLine_same (n : LineId) (l : Line) : (s.setLine n l).line n = l := by
  simp [State.line, State.setLine]

theorem State.line_setLine (n m : LineId) (l : Line) : (s.setLine n l).line m = if m = n then l else s.line m := by
  by_cases h : m = n
  · subst h; simp
  · have : n.val ≠ m.val := fun e => h (Fin.ext e.symm)
    simp [State.line, State.setLine, h, this]

@[simp] theorem State.line_setLine_of_ne {n m : LineId} (h : m ≠ n) (l : Line) : (s.setLine n l).line m = s.line m := by
  simp [State.line_setLine, h]

@[simp] theorem State.line_updLine_same (n : LineId) (f : Line → Line) : (s.updLine n f).line n = f (s.line n) := by
  simp [State.updLine]

theorem State.line_updLine (n m : LineId) (f : Line → Line) :
    (s.updLine n f).line m = if m = n then f (s.line n) else s.line m := by
  simp [State.updLine, State.line_setLine]

@[simp] theorem State.line_updLine_of_ne {n m : LineId} (h : m ≠ n) (f : Line → Line) :
    (s.updLine n f).line m = s.line m := by
  simp [State.updLine, h]

/-! ### Reading back an agitator and a gauge -/

@[simp] theorem State.tank_setTank_same (t : AgitatorId) (k : Tank) : (s.setTank t k).tank t = k := by cases t <;> rfl

@[simp] theorem State.tank_updTank_same (t : AgitatorId) (f : Tank → Tank) : (s.updTank t f).tank t = f (s.tank t) := by
  cases t <;> rfl

theorem State.tank_updTank (t u : AgitatorId) (f : Tank → Tank) :
    (s.updTank t f).tank u = if u = t then f (s.tank t) else s.tank u := by
  cases t <;> cases u <;> rfl

@[simp] theorem State.gauge_setGauge_same (g : GaugeId) (q : Gauge) : (s.setGauge g q).gauge g = q := by
  simp [State.gauge, State.setGauge]

theorem State.gauge_setGauge (g h : GaugeId) (q : Gauge) : (s.setGauge g q).gauge h = if h = g then q else s.gauge h := by
  by_cases e : h = g
  · subst e; simp
  · have : g.val ≠ h.val := fun x => e (Fin.ext x.symm)
    simp [State.gauge, State.setGauge, e, this]

@[simp] theorem State.gauge_updGauge_same (g : GaugeId) (f : Gauge → Gauge) : (s.updGauge g f).gauge g = f (s.gauge g) := by
  simp [State.updGauge]

theorem State.gauge_updGauge (g h : GaugeId) (f : Gauge → Gauge) :
    (s.updGauge g f).gauge h = if h = g then f (s.gauge g) else s.gauge h := by
  simp [State.updGauge, State.gauge_setGauge]

/-! ### What leaves every line, agitator and gauge as it is -/

@[simp] theorem State.line_lineEvent (n : LineId) (k : EventKind) (v w : Option EventValue) (m : LineId) : (s.lineEvent n k v w).line m = s.line m := rfl
@[simp] theorem State.line_plantEvent (k : EventKind) (u : Option Subject) (v w : Option EventValue) (m : LineId) : (s.plantEvent k u v w).line m = s.line m := rfl
@[simp] theorem State.line_answer (r : Reply) (m : LineId) : (s.answer r).line m = s.line m := rfl
@[simp] theorem State.line_refuse (r : Reason) (m : LineId) : (s.refuse r).line m = s.line m := rfl
@[simp] theorem State.line_withdraw (m : LineId) : s.withdraw.line m = s.line m := rfl
@[simp] theorem State.line_updRecord (h : Tag) (k : Nat) (f : StageRecord → StageRecord) (m : LineId) : (s.updRecord h k f).line m = s.line m := rfl
@[simp] theorem State.line_setMark (h : Tag) (k : Nat) (m : LineId) : (s.setMark h k).line m = s.line m := rfl
@[simp] theorem State.line_enqueue (r : Request) (m : LineId) : (s.enqueue r).line m = s.line m := by unfold State.enqueue; split <;> rfl
@[simp] theorem State.line_setTank (t : AgitatorId) (k : Tank) (m : LineId) : (s.setTank t k).line m = s.line m := by cases t <;> rfl
@[simp] theorem State.line_updTank (t : AgitatorId) (f : Tank → Tank) (m : LineId) : (s.updTank t f).line m = s.line m := by cases t <;> rfl
@[simp] theorem State.line_joinQueue (n : LineId) (t : AgitatorId) (m : LineId) : (s.joinQueue n t).line m = s.line m := by cases t <;> rfl
@[simp] theorem State.line_leaveQueues (n : LineId) (m : LineId) : (s.leaveQueues n).line m = s.line m := rfl
@[simp] theorem State.line_setGauge (g : GaugeId) (q : Gauge) (m : LineId) : (s.setGauge g q).line m = s.line m := rfl
@[simp] theorem State.line_updGauge (g : GaugeId) (f : Gauge → Gauge) (m : LineId) : (s.updGauge g f).line m = s.line m := rfl

@[simp] theorem State.tank_lineEvent (n : LineId) (k : EventKind) (v w : Option EventValue) (u' : AgitatorId) : (s.lineEvent n k v w).tank u' = s.tank u' := by cases u' <;> rfl
@[simp] theorem State.tank_plantEvent (k : EventKind) (u : Option Subject) (v w : Option EventValue) (u' : AgitatorId) : (s.plantEvent k u v w).tank u' = s.tank u' := by cases u' <;> rfl
@[simp] theorem State.tank_answer (r : Reply) (u' : AgitatorId) : (s.answer r).tank u' = s.tank u' := by cases u' <;> rfl
@[simp] theorem State.tank_refuse (r : Reason) (u' : AgitatorId) : (s.refuse r).tank u' = s.tank u' := by cases u' <;> rfl
@[simp] theorem State.tank_withdraw (u' : AgitatorId) : s.withdraw.tank u' = s.tank u' := by cases u' <;> rfl
@[simp] theorem State.tank_updRecord (h : Tag) (k : Nat) (f : StageRecord → StageRecord) (u' : AgitatorId) : (s.updRecord h k f).tank u' = s.tank u' := by cases u' <;> rfl
@[simp] theorem State.tank_setMark (h : Tag) (k : Nat) (u' : AgitatorId) : (s.setMark h k).tank u' = s.tank u' := by cases u' <;> rfl
@[simp] theorem State.tank_enqueue (r : Request) (u' : AgitatorId) : (s.enqueue r).tank u' = s.tank u' := by unfold State.enqueue; split <;> cases u' <;> rfl
@[simp] theorem State.tank_setLine (n : LineId) (l : Line) (u' : AgitatorId) : (s.setLine n l).tank u' = s.tank u' := by cases u' <;> rfl
@[simp] theorem State.tank_updLine (n : LineId) (f : Line → Line) (u' : AgitatorId) : (s.updLine n f).tank u' = s.tank u' := by cases u' <;> rfl
@[simp] theorem State.tank_setGauge (g : GaugeId) (q : Gauge) (u' : AgitatorId) : (s.setGauge g q).tank u' = s.tank u' := by cases u' <;> rfl
@[simp] theorem State.tank_updGauge (g : GaugeId) (f : Gauge → Gauge) (u' : AgitatorId) : (s.updGauge g f).tank u' = s.tank u' := by cases u' <;> rfl

@[simp] theorem State.gauge_lineEvent (n : LineId) (k : EventKind) (v w : Option EventValue) (g' : GaugeId) : (s.lineEvent n k v w).gauge g' = s.gauge g' := rfl
@[simp] theorem State.gauge_plantEvent (k : EventKind) (u : Option Subject) (v w : Option EventValue) (g' : GaugeId) : (s.plantEvent k u v w).gauge g' = s.gauge g' := rfl
@[simp] theorem State.gauge_answer (r : Reply) (g' : GaugeId) : (s.answer r).gauge g' = s.gauge g' := rfl
@[simp] theorem State.gauge_refuse (r : Reason) (g' : GaugeId) : (s.refuse r).gauge g' = s.gauge g' := rfl
@[simp] theorem State.gauge_withdraw (g' : GaugeId) : s.withdraw.gauge g' = s.gauge g' := rfl
@[simp] theorem State.gauge_updRecord (h : Tag) (k : Nat) (f : StageRecord → StageRecord) (g' : GaugeId) : (s.updRecord h k f).gauge g' = s.gauge g' := rfl
@[simp] theorem State.gauge_setMark (h : Tag) (k : Nat) (g' : GaugeId) : (s.setMark h k).gauge g' = s.gauge g' := rfl
@[simp] theorem State.gauge_enqueue (r : Request) (g' : GaugeId) : (s.enqueue r).gauge g' = s.gauge g' := by unfold State.enqueue; split <;> rfl
@[simp] theorem State.gauge_setLine (n : LineId) (l : Line) (g' : GaugeId) : (s.setLine n l).gauge g' = s.gauge g' := rfl
@[simp] theorem State.gauge_updLine (n : LineId) (f : Line → Line) (g' : GaugeId) : (s.updLine n f).gauge g' = s.gauge g' := rfl
@[simp] theorem State.gauge_setTank (t : AgitatorId) (k : Tank) (g' : GaugeId) : (s.setTank t k).gauge g' = s.gauge g' := by cases t <;> rfl
@[simp] theorem State.gauge_updTank (t : AgitatorId) (f : Tank → Tank) (g' : GaugeId) : (s.updTank t f).gauge g' = s.gauge g' := by cases t <;> rfl
@[simp] theorem State.gauge_joinQueue (n : LineId) (t : AgitatorId) (g' : GaugeId) : (s.joinQueue n t).gauge g' = s.gauge g' := by cases t <;> rfl
@[simp] theorem State.gauge_leaveQueues (n : LineId) (g' : GaugeId) : (s.leaveQueues n).gauge g' = s.gauge g' := rfl

@[simp] theorem State.drawers_lineEvent (n : LineId) (k : EventKind) (v w : Option EventValue) (u' : AgitatorId) : (s.lineEvent n k v w).drawers u' = s.drawers u' := by
  simp [State.drawers]
@[simp] theorem State.drawers_plantEvent (k : EventKind) (u : Option Subject) (v w : Option EventValue) (u' : AgitatorId) : (s.plantEvent k u v w).drawers u' = s.drawers u' := by
  simp [State.drawers]
@[simp] theorem State.drawers_answer (r : Reply) (u' : AgitatorId) : (s.answer r).drawers u' = s.drawers u' := by
  simp [State.drawers]
@[simp] theorem State.drawers_refuse (r : Reason) (u' : AgitatorId) : (s.refuse r).drawers u' = s.drawers u' := by
  simp [State.drawers]
@[simp] theorem State.drawers_withdraw (u' : AgitatorId) : s.withdraw.drawers u' = s.drawers u' := by
  simp [State.drawers]
@[simp] theorem State.drawers_updRecord (h : Tag) (k : Nat) (f : StageRecord → StageRecord) (u' : AgitatorId) : (s.updRecord h k f).drawers u' = s.drawers u' := by
  simp [State.drawers]
@[simp] theorem State.drawers_setMark (h : Tag) (k : Nat) (u' : AgitatorId) : (s.setMark h k).drawers u' = s.drawers u' := by
  simp [State.drawers]
@[simp] theorem State.drawers_enqueue (r : Request) (u' : AgitatorId) : (s.enqueue r).drawers u' = s.drawers u' := by
  simp [State.drawers]
@[simp] theorem State.drawers_setTank (t : AgitatorId) (k : Tank) (u' : AgitatorId) : (s.setTank t k).drawers u' = s.drawers u' := by
  simp [State.drawers]
@[simp] theorem State.drawers_updTank (t : AgitatorId) (f : Tank → Tank) (u' : AgitatorId) : (s.updTank t f).drawers u' = s.drawers u' := by
  simp [State.drawers]
@[simp] theorem State.drawers_joinQueue (n : LineId) (t : AgitatorId) (u' : AgitatorId) : (s.joinQueue n t).drawers u' = s.drawers u' := by
  simp [State.drawers]
@[simp] theorem State.drawers_leaveQueues (n : LineId) (u' : AgitatorId) : (s.leaveQueues n).drawers u' = s.drawers u' := by
  simp [State.drawers]
@[simp] theorem State.drawers_setGauge (g : GaugeId) (q : Gauge) (u' : AgitatorId) : (s.setGauge g q).drawers u' = s.drawers u' := by
  simp [State.drawers]
@[simp] theorem State.drawers_updGauge (g : GaugeId) (f : Gauge → Gauge) (u' : AgitatorId) : (s.updGauge g f).drawers u' = s.drawers u' := by
  simp [State.drawers]

/-! ### Lines by number -/

theorem mem_allLines (n : LineId) : n ∈ allLines := by revert n; decide

theorem mem_allGauges (g : GaugeId) : g ∈ allGauges := by revert g; decide

@[simp] theorem State.mem_drawers (t : AgitatorId) (n : LineId) : n ∈ s.drawers t ↔ (s.line n).draw = some t := by
  simp [State.drawers, mem_allLines]

@[simp] theorem State.mem_watchers (g : GaugeId) (n : LineId) : n ∈ s.watchers g ↔ g ∈ (s.line n).watched := by
  simp [State.watchers, mem_allLines]

@[simp] theorem State.mem_linesIn (st : LineState) (n : LineId) : n ∈ s.linesIn st ↔ (s.line n).state = st := by
  simp [State.linesIn, mem_allLines]

theorem lineOf_val (n : LineId) : lineOf n.val = some n := by simp [lineOf]

theorem lineOf_eq_none {n : Nat} (h : 8 ≤ n) : lineOf n = none := by simp [lineOf]; omega

theorem gaugeOf_val (g : GaugeId) : gaugeOf g.val = some g := by simp [gaugeOf]

/-! ### Answering an order -/

/-- The three ways an engineer order can go on. -/
theorem State.engineer_cases (t : State) :
    (s.config = .enable ∧ s.engineer t = t) ∨ (s.config ≠ .enable ∧ s.engineer t = s.refuse .key) := by
  unfold State.engineer; split
  · exact .inl ⟨‹_›, rfl⟩
  · exact .inr ⟨‹_›, rfl⟩

@[simp] theorem State.engineer_of_enable (h : s.config = .enable) (t : State) : s.engineer t = t := by
  simp [State.engineer, h]

@[simp] theorem State.engineer_of_ne (h : s.config ≠ .enable) (t : State) : s.engineer t = s.refuse .key := by
  simp [State.engineer, h]

@[simp] theorem State.withIndex_some {α : Type} (x : α) (f : α → State) : s.withIndex (some x) f = f x := rfl

@[simp] theorem State.withIndex_none {α : Type} (f : α → State) : s.withIndex none f = s.refuse .range := rfl

/-- An order is refused with the reason of its first failing check, or taken. -/
theorem State.judge_cases (checks : List (Bool × Reason)) (t : State) (fs : List Field) :
    (∃ r, firstFailing checks = some r ∧ s.judge checks t fs = s.refuse r) ∨
    (firstFailing checks = none ∧ s.judge checks t fs = t.answer (.ok fs)) := by
  unfold State.judge; split
  · exact .inl ⟨_, ‹_›, rfl⟩
  · exact .inr ⟨‹_›, rfl⟩

@[simp] theorem firstFailing_nil : firstFailing [] = none := rfl

@[simp] theorem firstFailing_true (r : Reason) (cs : List (Bool × Reason)) : firstFailing ((true, r) :: cs) = some r := rfl

@[simp] theorem firstFailing_false (r : Reason) (cs : List (Bool × Reason)) :
    firstFailing ((false, r) :: cs) = firstFailing cs := rfl

/-- No check fails exactly where every check of the list is passed. -/
theorem firstFailing_eq_none {cs : List (Bool × Reason)} : firstFailing cs = none ↔ ∀ c ∈ cs, c.1 = false := by
  simp [firstFailing]

theorem State.judge_of_pass {checks : List (Bool × Reason)} (h : ∀ c ∈ checks, c.1 = false) (t : State) (fs : List Field) :
    s.judge checks t fs = t.answer (.ok fs) := by
  simp [State.judge, firstFailing_eq_none.2 h]

@[simp] theorem State.judge_nil (t : State) (fs : List Field) : s.judge [] t fs = t.answer (.ok fs) := rfl

@[simp] theorem State.answer_reply (r : Reply) : (s.answer r).serial.reply = some r := rfl

@[simp] theorem State.answer_phase (r : Reply) : (s.answer r).serial.phase = .due := rfl

/-! ### Event holds -/

/-- A hold keeps no more entries than its size. -/
theorem Hold.place_length (cap : Nat) (e : Event) (h : Hold) (hl : h.entries.length ≤ cap) :
    (h.place cap e).entries.length ≤ cap := by
  unfold Hold.place; split <;> simp <;> omega

/-- A hold with room takes the event as its newest entry; a full one keeps its entries and is marked. -/
theorem Hold.place_cases (cap : Nat) (e : Event) (h : Hold) :
    (h.entries.length < cap ∧ h.place cap e = { h with entries := h.entries ++ [e] }) ∨
    (cap ≤ h.entries.length ∧ h.place cap e = { h with overflow := true }) := by
  unfold Hold.place; split
  · exact .inl ⟨‹_›, rfl⟩
  · exact .inr ⟨by omega, rfl⟩

end Sys2Proof.Machine
end

