-- ==== Sys2Proof/Laws/Plant.lean ====
section
/-! SUPPORT. What a settling of the plant can do: one induction over its examinations, and the parts of the state that it
leaves as they are. -/

namespace Sys2Proof.Machine

/-! ### What each examination can do -/

/-- A switchover examination switches the line over where that is due, or does nothing (R107). -/
theorem State.switchExamines_cases (s : State) (n : LineId) :
    (∃ t k, s.switchDue n = some (t, k) ∧ s.switchExamines n = s.switchTo n t k) ∨
    (s.switchDue n = none ∧ s.switchExamines n = s) := by
  unfold State.switchExamines
  match h : s.switchDue n with
  | some (t, k) => exact .inl ⟨t, k, rfl, rfl⟩
  | none => exact .inr ⟨rfl, rfl⟩

/-- A grant examination grants the head its start where that is due, or does nothing (R110). -/
theorem State.grantExamines_cases (s : State) (t : AgitatorId) :
    (∃ n, s.grantDue t = some n ∧ s.grantExamines t = s.grant t n) ∨
    (s.grantDue t = none ∧ s.grantExamines t = s) := by
  unfold State.grantExamines
  match h : s.grantDue t with
  | some n => exact .inl ⟨n, rfl, rfl⟩
  | none => exact .inr ⟨rfl, rfl⟩

/-- A request joins the tail of the queue, or nothing changes (R98). -/
theorem State.enqueue_cases (s : State) (r : Request) :
    (s.queued r.tank r.mix = false ∧ s.queueRoom = true ∧ s.enqueue r = { s with batchQueue := s.batchQueue ++ [r] }) ∨
    s.enqueue r = s := by
  unfold State.enqueue
  by_cases h : (s.queued r.tank r.mix || !s.queueRoom) = true
  · exact .inr (by rw [if_pos h])
  · refine .inl ⟨?_, ?_, by rw [if_neg h]⟩ <;> simp_all

/-- The creation of a TOPUP adds one request or nothing (R99). -/
theorem State.createTopup_cases (s : State) (t : AgitatorId) : (∃ r, s.createTopup t = s.enqueue r) ∨ s.createTopup t = s := by
  unfold State.createTopup
  dsimp only
  split
  · split
    · exact .inl ⟨_, rfl⟩
    · exact .inr rfl
  · exact .inr rfl

/-- The creation of a CHANGE adds one request or nothing (R100). -/
theorem State.createChange_cases (s : State) (n : LineId) : (∃ r, s.createChange n = s.enqueue r) ∨ s.createChange n = s := by
  unfold State.createChange
  split
  · split
    · exact .inl ⟨_, rfl⟩
    · exact .inr rfl
  · exact .inr rfl

/-- The mixer's examination of the queue takes a request, leaves a shorter queue, or does nothing (R103). -/
theorem State.mixerExamines_cases (s : State) :
    (∃ q t r, (s.examine s.batchQueue) = (q, some (t, r)) ∧ s.mixer = .idle ∧
      s.mixerExamines = { s with batchQueue := q }.serve t r) ∨
    (∃ q, (s.examine s.batchQueue) = (q, none) ∧ s.mixerExamines = { s with batchQueue := q }) ∨
    s.mixerExamines = s := by
  unfold State.mixerExamines
  match hm : s.mixer with
  | .idle =>
    match he : s.examine s.batchQueue with
    | (q, some (t, r)) => exact .inl ⟨q, t, r, rfl, rfl, rfl⟩
    | (q, none) => exact .inr (.inl ⟨q, rfl, rfl⟩)
  | .waiting _ _ => exact .inr (.inr rfl)
  | .mixing _ _ => exact .inr (.inr rfl)

/-! ### The induction over a settling -/

/-- A property kept by each thing that a settling does is kept by the settling (R114). -/
theorem State.settle_induction {P : State → Prop}
    (switch : ∀ s n t k, P s → s.switchDue n = some (t, k) → P (s.switchTo n t k))
    (queue : ∀ s q, P s → (∀ r ∈ q, r ∈ s.batchQueue) → q.length ≤ s.batchQueue.length → P { s with batchQueue := q })
    (join : ∀ s r, P s → P (s.enqueue r))
    (serve : ∀ s t r, P s → s.mixer = .idle → P (s.serve t r))
    (grant : ∀ s t n, P s → s.grantDue t = some n → P (s.grant t n))
    (s : State) (h : P s) : P s.settle := by
  have hfold : ∀ (f : State → LineId → State) (_ : ∀ s n, P s → P (f s n)) (ns : List LineId) (s : State), P s → P (ns.foldl f s) := by
    intro f hf ns
    induction ns with
    | nil => exact fun _ h => h
    | cons n ns ih => exact fun s h => ih _ (hf s n h)
  have hsw : ∀ s n, P s → P (State.switchExamines s n) := by
    intro s n hs
    rcases s.switchExamines_cases n with ⟨t, k, hd, he⟩ | ⟨-, he⟩
    · rw [he]; exact switch s n t k hs hd
    · rw [he]; exact hs
  have htop : ∀ s t, P s → P (State.createTopup s t) := by
    intro s t hs
    rcases s.createTopup_cases t with ⟨r, he⟩ | he
    · rw [he]; exact join s r hs
    · rw [he]; exact hs
  have hch : ∀ s n, P s → P (State.createChange s n) := by
    intro s n hs
    rcases s.createChange_cases n with ⟨r, he⟩ | he
    · rw [he]; exact join s r hs
    · rw [he]; exact hs
  have hex : ∀ (s : State) (q : List Request),
      (∀ r ∈ (s.examine q).1, r ∈ q) ∧ (s.examine q).1.length ≤ q.length := by
    intro s q
    induction q with
    | nil => simp [State.examine]
    | cons r q ih =>
      obtain ⟨ih1, ih2⟩ := ih
      unfold State.examine
      split
      · exact ⟨fun x hx => List.mem_cons_of_mem _ (ih1 x hx), by simp; omega⟩
      · split
        · exact ⟨fun x hx => List.mem_cons_of_mem _ hx, by simp⟩
        · refine ⟨fun x hx => ?_, by simp; omega⟩
          rcases List.mem_cons.1 hx with rfl | hx
          · simp
          · exact List.mem_cons_of_mem _ (ih1 x hx)
  have hmix : ∀ s, P s → P (State.mixerExamines s) := by
    intro s hs
    have hq := hex s s.batchQueue
    rcases s.mixerExamines_cases with ⟨q, t, r, he, hm, h'⟩ | ⟨q, he, h'⟩ | h'
    · rw [h']; rw [he] at hq; exact serve _ t r (queue s q hs hq.1 hq.2) hm
    · rw [h']; rw [he] at hq; exact queue s q hs hq.1 hq.2
    · rw [h']; exact hs
  have hgr : ∀ s t, P s → P (State.grantExamines s t) := by
    intro s t hs
    rcases s.grantExamines_cases t with ⟨n, hd, he⟩ | ⟨-, he⟩
    · rw [he]; exact grant s t n hs hd
    · rw [he]; exact hs
  have hpass : ∀ s, P s → P (State.settlePass s) := by
    intro s hs
    unfold State.settlePass
    exact hgr _ _ (hgr _ _ (hmix _ (hfold _ hch _ _ (htop _ _ (htop _ _ (hfold _ hsw _ _ hs))))))
  have hfor : ∀ k s, P s → P (State.settleFor k s) := by
    intro k
    induction k with
    | zero => exact fun _ h => h
    | succ k ih =>
      intro s hs
      unfold State.settleFor
      split
      · exact ih _ (hpass s hs)
      · exact hpass s hs
  exact hfor 17 s h

/-! ### What a settling leaves as it is -/

theorem State.serve_keeps {α : Type} (f : State → α) (hm : ∀ s m v, f { s with mixer := m, phaseTimer := v } = f s)
    (ht : ∀ s t k, f (State.updTank s t k) = f s) (s : State) (t : AgitatorId) (r : Request) : f (s.serve t r) = f s := by
  unfold State.serve
  split
  · exact (hm _ _ _).trans (ht _ _ _)
  · split <;> exact (hm _ _ _).trans (ht _ _ _)

/-- A reading of the state that no examination changes is as it was after a settling. -/
theorem State.settle_keeps {α : Type} (f : State → α)
    (line : ∀ s n g, f (State.updLine s n g) = f s) (tank : ∀ s t g, f (State.updTank s t g) = f s)
    (leave : ∀ s n, f (State.leaveQueues s n) = f s)
    (event : ∀ s n k v w, f (State.lineEvent s n k v w) = f s) (queue : ∀ (s : State) q, f { s with batchQueue := q } = f s)
    (mixer : ∀ s m v, f { s with mixer := m, phaseTimer := v } = f s) (s : State) : f s.settle = f s := by
  have hw : ∀ s : State, f s.withdraw = f s := fun s => queue s _
  have := State.settle_induction (P := fun u => f u = f s)
    (fun u n t k hu _ => by
      unfold State.switchTo
      rw [hw, event, line]
      split
      · rw [State.joinQueue, tank, leave, hu]
      · exact hu)
    (fun u q hu _ _ => (queue u q).trans hu)
    (fun u r hu => by
      rcases u.enqueue_cases r with ⟨-, -, he⟩ | he
      · rw [he]; exact (queue u _).trans hu
      · rw [he]; exact hu)
    (fun u t r hu _ => (State.serve_keeps f mixer tank u t r).trans hu)
    (fun u t n hu _ => by unfold State.grant; rw [event, line, tank, hu])
    s rfl
  exact this

variable (s : State)

@[simp] theorem State.settle_mixes : s.settle.mixes = s.mixes :=
  State.settle_keeps (·.mixes) (fun _ _ _ => rfl) (fun _ t _ => by cases t <;> rfl) (fun _ _ => rfl) (fun _ _ _ _ _ => rfl) (fun _ _ => rfl)
    (fun _ _ _ => rfl) s
@[simp] theorem State.settle_plant : s.settle.plant = s.plant :=
  State.settle_keeps (·.plant) (fun _ _ _ => rfl) (fun _ t _ => by cases t <;> rfl) (fun _ _ => rfl) (fun _ _ _ _ _ => rfl) (fun _ _ => rfl)
    (fun _ _ _ => rfl) s
@[simp] theorem State.settle_points : s.settle.points = s.points :=
  State.settle_keeps (·.points) (fun _ _ _ => rfl) (fun _ t _ => by cases t <;> rfl) (fun _ _ => rfl) (fun _ _ _ _ _ => rfl) (fun _ _ => rfl)
    (fun _ _ _ => rfl) s
@[simp] theorem State.settle_windows : s.settle.windows = s.windows :=
  State.settle_keeps (·.windows) (fun _ _ _ => rfl) (fun _ t _ => by cases t <;> rfl) (fun _ _ => rfl) (fun _ _ _ _ _ => rfl) (fun _ _ => rfl)
    (fun _ _ _ => rfl) s
@[simp] theorem State.settle_envelopes : s.settle.envelopes = s.envelopes :=
  State.settle_keeps (·.envelopes) (fun _ _ _ => rfl) (fun _ t _ => by cases t <;> rfl) (fun _ _ => rfl) (fun _ _ _ _ _ => rfl) (fun _ _ => rfl)
    (fun _ _ _ => rfl) s
@[simp] theorem State.settle_book : s.settle.book = s.book :=
  State.settle_keeps (·.book) (fun _ _ _ => rfl) (fun _ t _ => by cases t <;> rfl) (fun _ _ => rfl) (fun _ _ _ _ _ => rfl) (fun _ _ => rfl)
    (fun _ _ _ => rfl) s
@[simp] theorem State.settle_holes : s.settle.holes = s.holes :=
  State.settle_keeps (·.holes) (fun _ _ _ => rfl) (fun _ t _ => by cases t <;> rfl) (fun _ _ => rfl) (fun _ _ _ _ _ => rfl) (fun _ _ => rfl)
    (fun _ _ _ => rfl) s
@[simp] theorem State.settle_gauges : s.settle.gauges = s.gauges :=
  State.settle_keeps (·.gauges) (fun _ _ _ => rfl) (fun _ t _ => by cases t <;> rfl) (fun _ _ => rfl) (fun _ _ _ _ _ => rfl) (fun _ _ => rfl)
    (fun _ _ _ => rfl) s
@[simp] theorem State.settle_responses : s.settle.responses = s.responses :=
  State.settle_keeps (·.responses) (fun _ _ _ => rfl) (fun _ t _ => by cases t <;> rfl) (fun _ _ => rfl) (fun _ _ _ _ _ => rfl) (fun _ _ => rfl)
    (fun _ _ _ => rfl) s
@[simp] theorem State.settle_loop : s.settle.loop = s.loop :=
  State.settle_keeps (·.loop) (fun _ _ _ => rfl) (fun _ t _ => by cases t <;> rfl) (fun _ _ => rfl) (fun _ _ _ _ _ => rfl) (fun _ _ => rfl)
    (fun _ _ _ => rfl) s
@[simp] theorem State.settle_config : s.settle.config = s.config :=
  State.settle_keeps (·.config) (fun _ _ _ => rfl) (fun _ t _ => by cases t <;> rfl) (fun _ _ => rfl) (fun _ _ _ _ _ => rfl) (fun _ _ => rfl)
    (fun _ _ _ => rfl) s
@[simp] theorem State.settle_plantHold : s.settle.plantHold = s.plantHold :=
  State.settle_keeps (·.plantHold) (fun _ _ _ => rfl) (fun _ t _ => by cases t <;> rfl) (fun _ _ => rfl) (fun _ _ _ _ _ => rfl) (fun _ _ => rfl)
    (fun _ _ _ => rfl) s
@[simp] theorem State.settle_results : s.settle.results = s.results :=
  State.settle_keeps (·.results) (fun _ _ _ => rfl) (fun _ t _ => by cases t <;> rfl) (fun _ _ => rfl) (fun _ _ _ _ _ => rfl) (fun _ _ => rfl)
    (fun _ _ _ => rfl) s
@[simp] theorem State.settle_clock : s.settle.clock = s.clock :=
  State.settle_keeps (·.clock) (fun _ _ _ => rfl) (fun _ t _ => by cases t <;> rfl) (fun _ _ => rfl) (fun _ _ _ _ _ => rfl) (fun _ _ => rfl)
    (fun _ _ _ => rfl) s
@[simp] theorem State.settle_serial : s.settle.serial = s.serial :=
  State.settle_keeps (·.serial) (fun _ _ _ => rfl) (fun _ t _ => by cases t <;> rfl) (fun _ _ => rfl) (fun _ _ _ _ _ => rfl) (fun _ _ => rfl)
    (fun _ _ _ => rfl) s
@[simp] theorem State.settle_pending : s.settle.pending = s.pending :=
  State.settle_keeps (·.pending) (fun _ _ _ => rfl) (fun _ t _ => by cases t <;> rfl) (fun _ _ => rfl) (fun _ _ _ _ _ => rfl) (fun _ _ => rfl)
    (fun _ _ _ => rfl) s

/-- The acts on the lines that reach the plant coordinator (R114). -/
theorem State.plantTold_iff (s t : State) : s.plantTold t = true ↔
    t.tankA.startQueue ≠ s.tankA.startQueue ∨ t.tankB.startQueue ≠ s.tankB.startQueue ∨
    ∃ n, (t.line n).draw ≠ (s.line n).draw ∨ (t.line n).pendingMix ≠ (s.line n).pendingMix ∨
      ((s.line n).circ.running = true ∧ (t.line n).circ.running = false) := by
  simp [State.plantTold, mem_allLines, or_assoc]

/-- What the settling of an act that is told makes of it, and that an act that is not told stands. -/
theorem State.settleIfTold_cases (s t : State) :
    (s.plantTold t = true ∧ s.settleIfTold t = t.settle) ∨ (s.plantTold t = false ∧ s.settleIfTold t = t) := by
  unfold State.settleIfTold
  cases h : s.plantTold t <;> simp

/-- A reading of the state that no settling changes is as it was after an act settled where it is told. -/
theorem State.settleIfTold_keeps {α : Type} (f : State → α) (h : ∀ u : State, f u.settle = f u) (s t : State) :
    f (s.settleIfTold t) = f t := by
  rcases s.settleIfTold_cases t with ⟨-, e⟩ | ⟨-, e⟩ <;> simp [e, h]

end Sys2Proof.Machine
end

