-- ==== Sys2Proof/WellFormed.lean ====
section
/-! DEFINITION. The check of a command's own operands: what the order line and the field wiring can carry at all. A command
that fails it stands for nothing that reaches the part; a value out of an order's range is well formed, and the order's
meaning refuses it with RANGE. -/

namespace Sys2Proof

/-- A field as the order line can carry it: 1 to 96 characters of 8 bits, none a space, a carriage return or a line feed
(R165, R167). -/
def fieldOk (t : Text) : Bool :=
  !t.isEmpty && decide (t.length ≤ 96) &&
  t.all fun c => decide (c.toNat < 256) && c != ' ' && c != '\r' && c != '\n'

/-- The command's operands can occur: tags are fields of a line, STAGE ADD lists at most two gauges (R116), and the lines found
at LOCAL are given once each (R155). -/
def Instr.wellFormed : Instr → Bool
  | .powerOn w => decide w.atLocal.Nodup
  | .mixdef _ m => fieldOk m.tag
  | .seat _ hole _ _ => fieldOk hole
  | .stageAdd hole _ _ _ gauges => fieldOk hole && decide (gauges.length ≤ 2)
  | .stageDrop hole _ => fieldOk hole
  | .stage hole _ => fieldOk hole
  | .map hole => fieldOk hole
  | .holeClear hole => fieldOk hole
  | .characterReceived _ _ | .orderLineRefused | .heldLineTaken | .setLine _ _ | .setAgitatorPlant _ | .setPlantMethod _
  | .setPlantCirc _ _ | .setGauge _ _ _ | .setRead _ | .mixdefRead _ | .dropmix _ | .envdef _ _ | .envdefRead _
  | .profile _ _ _ | .profileRead _ | .point _ _ _ | .pointRead _ | .response _ _ | .responseRead _ | .restart | .status
  | .line _ | .poll _ | .take | .clock _ | .prime _ _ | .inject _ _ _ _ _ | .cancel _ | .pause _ | .resume _ | .endStage _
  | .abort _ | .release _ _ | .mix _ _ | .circulate _ | .wash _ | .tare _ | .book _ | .level _ _ | .batch _ _ | .plant
  | .gauge _ | .upliftClear _ | .configurationKeyTurn _ | .siteStopOpen | .siteStopClose | .keyToLocal _ | .keyToRemote _
  | .lineSampleEvent _ _ | .sensor _ _ | .tareDone _ _ | .primed _ _ | .seated _ _ | .seatFail _ _ | .shutInEnd _ _
  | .decayed _ _ | .decaySlow _ _ | .released _ _ | .deflateSlow _ _ | .washed _ _ | .profileStep _ _ | .refusal _ _
  | .dropReferenceTaken _ _ | .holdOffEnd _ _ | .packerLow _ _ | .fouled _ _ | .circulationRunDue _ _
  | .circulationRunEnd _ _ | .gaugeSampleEvent _ _ | .gaugeFault _ _ | .gaugeRestored _ _ | .partClockSecond | .switchover _
  | .mixerTakesRequest | .dumpEnd | .batchDone | .startGrant _ => true

end Sys2Proof
end

