-- ==== Sys2Proof/Tests/Slice0.lean ====
section
/-! SUPPORT. Tests: the well-formedness smoke tests, the spec's worked figures one command at a time, and for each statement
with hypotheses a concrete state and operands that meet them. -/

namespace Sys2Proof.Tests

open Sys2Proof Sys2Proof.Machine

/-! ## Helpers -/

/-- The state that an outcome goes on with. -/
def after (o : Host.Outcome State Fault Refusal) : State :=
  match o with
  | .next t => t
  | .fault _ | .refused _ => State.reset

/-- The state after one command. -/
def run (c : Instr) (s : State) : State := after (exec c s)

/-- The reply formed by one command. -/
def replyTo (c : Instr) (s : State) : Option Reply := (run c s).serial.reply

/-- Line `n` changed by `f`. -/
def put (n : LineId) (f : Line → Line) (s : State) : State := { s with lines := s.lines.set n (f s.lines[n]) }

def k14 : Text := ['K', '1', '4']
def k16 : Text := ['K', '1', '6']

/-- Envelope 1 and window 0 of the worked case (3.12). -/
def envelope1 : Envelope := ⟨3000, 200, 1500, 10, 600, 100, 50, 60⟩

/-- A record of 50 dm watched by one gauge. -/
def stageRec (hole : Tag) (k top : Nat) (g : GaugeId) (st : StageStatus) : StageRecord := ⟨hole, k, top, top + 50, [g], st, 0, 0⟩

/-- The book and map of 6.8 at clock 4900. -/
def book68 (s : State) : State := { s with
  book := [stageRec k14 1 140 4 .done, stageRec k14 2 190 4 .done, stageRec k14 3 240 4 (.seatedOn 2), stageRec k14 4 290 4 .opened,
    stageRec k16 1 140 5 .done, stageRec k16 2 190 5 .done, stageRec k16 3 240 5 (.seatedOn 3)]
  holes := [⟨k14, (Vector.replicate 20 false |>.set 0 true).set 1 true⟩,
    ⟨k16, (Vector.replicate 20 false |>.set 0 true).set 1 true⟩] }

/-- A part at work: the tables of the worked cases (3.12, 4.10, 4.11), both agitators READY, gauges 4 and 5 enabled, every line
FOULED but remote, and the configuration key in ENABLE. -/
def yard : State := book68 { State.reset with
  config := .enable
  clock := 1000
  mixes := #v[some ⟨['A'], 200, 1400, 20, 120⟩, some ⟨['B'], 100, 1600, 30, 90⟩, some ⟨['C'], 80, 1680, 45, 60⟩,
    some ⟨['D'], 70, 1760, 60, 45⟩, none, none]
  envelopes := #v[some ⟨1000, 150, 1000, 10, 300, 50, 40, 50⟩, some envelope1, none, none]
  windows := ((Vector.replicate 16 none).set 0 (some ⟨0, 3⟩)).set 1 (some ⟨3, 3⟩)
  points := (((Vector.replicate 256 ⟨0, 0⟩).set 0 ⟨1000, 300⟩).set 1 ⟨1500, 600⟩).set 2 ⟨2000, 0⟩
  gauges := ((Vector.replicate 12 Gauge.powerOn).set 4 { Gauge.powerOn with state := .idle, heave := 20 }).set 5
    { Gauge.powerOn with state := .watch, heave := -35, baseline := -40 }
  tankA := { Tank.powerOn with state := .ready, mix := some 2, level := 800000 }
  tankB := { Tank.powerOn with state := .ready, mix := some 1, level := 240000 } }

/-- A line in state `st` with its column of mix 2 from agitator A, bound to nothing. -/
def standing (st : LineState) (l : Line) : Line :=
  { l with
    state := st
    pauseCause := none
    draw := some .tankA
    columnMix := some 2
    drawMix := some 2
    valves := valvesOf st false
    circ := ⟨some 0, false, 0, false⟩ }

/-- A line in state `st` on a stage under envelope 1 and window 0, started at clock 1215 (2.15). -/
def staged (st : LineState) (hole : Tag) (k : Nat) (l : Line) : Line :=
  { standing st l with
    bound := some ⟨hole, k⟩
    startClock := some 1215
    envelope := some 1
    window := some 0
    fig := { l.fig with mixList := [2] } }

/-- The yard with line 2 in state `st` on K14 stage 3. -/
def two (st : LineState) : State := put 2 (staged st k14 3) yard

/-- A sample at rest: the collar at 0 kPa, the packer at 4120 kPa of 16000, no pulse. -/
def quiet : Sample := ⟨4000, 8120, 0, 0⟩

/-- Line 3 of the worked case (3.12.1), before the sample. -/
def workedLine (l : Line) : Line :=
  { staged .injecting k16 3 l with
    watched := [5]
    heaveMax := some 0
    settings := { l.settings with pulse := 2 }
    inputs := { l.inputs with tareOffset := 185, window := [9, 7, 7, 7, 7, 7, 7, 7, 7, 8] }
    fig := { l.fig with
      volume := 411986
      mixVolume := 259986
      mixList := [2]
      pointIndex := 2
      dwellCount := 3120
      pumpRate := 356
      rateRecord := [340, 342, 344, 346, 348, 350, 352, 354, 355, 356] } }

/-- The worked case. -/
def worked : State := put 3 workedLine yard

/-- The sample of 3.12.1: 6504 µA, 7 pulses. -/
def workedSample : Sample := ⟨6504, 8120, 7, 0⟩

/-! ## Well-formedness -/

/-- R165: a field holds no space, and a line no more than 96 characters; R116: at most two gauges; R155: one position a key. -/
theorem test_ill_formed_commands_are_refused :
    (Instr.mixdef 1 ⟨[], 100, 1600, 30, 90⟩).wellFormed = false ∧
    (Instr.seat 1 ['K', ' '] 3 .absent).wellFormed = false ∧
    (Instr.stageAdd k14 1 0 50 [1, 2, 3]).wellFormed = false ∧ (Instr.stageAdd ['\r'] 1 0 50 []).wellFormed = false ∧
    (Instr.stageDrop ['\n'] 1).wellFormed = false ∧ (Instr.stage (List.replicate 97 'K') 1).wellFormed = false ∧
    (Instr.map [Char.ofNat 256]).wellFormed = false ∧ (Instr.holeClear []).wellFormed = false ∧
    (Instr.powerOn ⟨.closed, [1, 1], .run⟩).wellFormed = false := by decide +kernel

theorem test_well_formed_commands_pass :
    (Instr.mixdef 1 ⟨['B'], 100, 1600, 30, 90⟩).wellFormed = true ∧ (Instr.seat 1 k14 3 .given).wellFormed = true ∧
    (Instr.stageAdd k14 1 140 190 [4, 5]).wellFormed = true ∧ (Instr.powerOn ⟨.opened, [1, 2], .run⟩).wellFormed = true ∧
    Instr.partClockSecond.wellFormed = true := by decide +kernel

/-! ## Measurement inputs (1.7, 1.9) -/

/-- Line 3 DRY with CSPAN 10000 and offset 185, sampled at `current`. -/
def collarAt (current : Nat) : Inputs :=
  ((run (.lineSampleEvent 3 ⟨current, 8120, 0, 0⟩) (put 3 (fun l =>
    { l with state := .dry, inputs := { l.inputs with tareOffset := 185, collar := ⟨777, false, 0⟩ } }) yard)).line 3).inputs

/-- The rows of 1.7. -/
theorem test_collar_scaling :
    (collarAt 3800).collar = ⟨0, false, 0⟩ ∧ (collarAt 4004).collar = ⟨2, false, 0⟩ ∧
    (collarAt 6504).collar = ⟨1565, false, 0⟩ ∧ (collarAt 12000).collar = ⟨5000, false, 0⟩ ∧
    (collarAt 20500).collar = ⟨10000, false, 0⟩ ∧ (collarAt 3500).collar = ⟨777, true, 1⟩ := by decide +kernel

/-- R3: the good range is 3600 to 20800 µA, both included. -/
theorem test_collar_good_range :
    (collarAt 3599).collar.degraded = true ∧ (collarAt 3600).collar.degraded = false ∧
    (collarAt 20800).collar.degraded = false ∧ (collarAt 20801).collar.degraded = true := by decide +kernel

/-- The packer input of 1.7: PSPAN 25000 and 10000 µA give 9375 kPa; a window of 33 pulses with PULSE 10 that loses 3 and gains
5 gives 210 dL/min. -/
theorem test_packer_and_flow :
    let i := ((run (.lineSampleEvent 1 ⟨4000, 10000, 5, 2⟩) (put 1 (fun l => { l with
      state := .dry
      settings := { l.settings with pspan := 25000 }
      inputs := { l.inputs with window := [3, 4, 3, 3, 4, 3, 3, 4, 3, 3] } }) yard)).line 1).inputs
    i.packer.value = 9375 ∧ i.flow = 210 ∧ i.window = [4, 3, 3, 4, 3, 3, 4, 3, 3, 5] ∧ i.strokes = 2 := by decide +kernel

/-- The broken loop of 1.7 at sample k + 29. -/
theorem test_sensor_on_the_thirtieth_sample :
    let s := run (.sensor 4 ⟨0, 8120, 0, 0⟩) (put 4 (fun l => { l with
      inputs := { l.inputs with collar := ⟨3125, true, 29⟩ } }) yard)
    (s.line 4).inputs.collar = ⟨3125, true, 30⟩ ∧
    s.lineHolds[4] = ⟨[⟨.sensor, 1000, some (.line 4), some (.num 1), some (.num 0)⟩], false⟩ := by decide +kernel

/-- 1.9.1: the twentieth sample, 187 kPa, completes the run with a mean of 185; its own Pc is still 187 (R15), and the next sample's
is 2. -/
theorem test_tare_done :
    let s := run (.tareDone 3 ⟨4300, 8120, 0, 0⟩) (put 3 (fun l =>
      { standing .primed l with inputs := { l.inputs with tare := some ⟨19, 3517⟩ } }) yard)
    (s.line 3).inputs.tareOffset = 185 ∧ (s.line 3).inputs.tare = none ∧ (s.line 3).inputs.pc = 187 ∧
    ((run (.lineSampleEvent 3 ⟨4300, 8120, 0, 0⟩) s).line 3).inputs.pc = 2 ∧
    s.lineHolds[3].entries = [⟨.tareDone, 1000, some (.line 3), some (.num 185), none⟩] := by decide +kernel

/-- 1.9.2: a mean of 312 fails. 1.9.3: a bad sample ends the run. -/
theorem test_tare_fail :
    let dry := fun (run : TareRun) => put 5 (fun l =>
      { l with state := .dry, inputs := { l.inputs with tareOffset := 40, tare := some run } }) yard
    let s := run (.tareDone 5 ⟨4500, 8120, 0, 0⟩) (dry ⟨19, 5937⟩)
    let t := run (.lineSampleEvent 5 ⟨3100, 8120, 0, 0⟩) (dry ⟨7, 700⟩)
    (s.line 5).inputs.tareOffset = 40 ∧ s.lineHolds[5].entries = [⟨.tareFail, 1000, some (.line 5), some (.num 312), none⟩] ∧
    (t.line 5).inputs.tare = none ∧ (t.line 5).inputs.collar = ⟨0, true, 1⟩ ∧
    t.lineHolds[5].entries = [⟨.tareFail, 1000, some (.line 5), none, none⟩] := by decide +kernel

/-- R13: TARE is refused with STATE, BUSY or SENSOR, and taken under the LOCAL key. -/
theorem test_tare_order :
    replyTo (.tare 3) (put 3 (standing .seated) yard) = some (.no .state) ∧
    replyTo (.tare 3) (put 3 (fun l => { standing .primed l with inputs := { l.inputs with tare := some ⟨0, 0⟩ } }) yard) =
      some (.no .busy) ∧
    replyTo (.tare 3) (put 3 (fun l => { standing .dry l with inputs := { l.inputs with collar := ⟨0, true, 1⟩ } }) yard) =
      some (.no .sensor) ∧
    replyTo (.tare 3) (put 3 (fun l => { standing .dry l with key := .locl }) yard) = some (.ok []) := by decide +kernel

/-! ## A stage through one line (2.15, 3.12, 11) -/

/-- Line 2 of 2.15: DRY, then PRIMING on A. -/
def dryTwo : State := put 2 (fun l => { l with state := .dry, pauseCause := none }) yard

/-- PRIME 2 A at clock 1000: the hose is reserved from 800,000 mL. -/
theorem test_prime_reserves_the_hose :
    (run (.prime 2 (some .tankA)) dryTwo).tankA.level = 780000 ∧
    ((run (.prime 2 (some .tankA)) dryTwo).line 2).state = .priming ∧
    ((run (.prime 2 (some .tankA)) dryTwo).line 2).fig.pumpRate = 150 := by decide +kernel

/-- The priming timer reaches 120 s: PRIMED, column and draw mix 2, age 0. -/
theorem test_primed_at_primet :
    let s := run (.primed 2 quiet) (put 2 (fun l =>
      { l with state := .priming, draw := some .tankA, stateTicks := 1199, circ := .powerOn }) yard)
    (s.line 2).state = .primed ∧ (s.line 2).columnMix = some 2 ∧ (s.line 2).drawMix = some 2 ∧ (s.line 2).circ.age = some 0 ∧
    s.lineHolds[2].entries = [⟨.primed, 1000, some (.line 2), some (.num 2), none⟩] := by decide +kernel

/-- Before that second nothing comes about. -/
theorem test_priming_goes_on :
    ((run (.primed 2 quiet) (put 2 (fun l =>
      { l with state := .priming, draw := some .tankA, stateTicks := 1198, circ := .powerOn }) yard)).line 2).state = .priming
    := by decide +kernel

/-- SEAT 5 K14 4 in 6.8: refused with HOLE at 4950, and taken once K14 3 is DONE and marked. -/
theorem test_seat_under_down :
    let s := put 5 (standing .primed) yard
    let t := { s.setMark k14 3 with book := s.book.map fun r => if r.hole = k14 ∧ r.stage = 3 then { r with status := .done } else r }
    replyTo (.seat 5 k14 4 .absent) s = some (.no .hole) ∧ replyTo (.seat 5 k14 4 .absent) t = some (.ok []) ∧
    (run (.seat 5 k14 4 .absent) t).book[3]? = some (stageRec k14 4 290 4 (.seatedOn 5)) ∧
    ((run (.seat 5 k14 4 .absent) t).line 5).bound = some ⟨k14, 4⟩ := by decide +kernel

/-- 6.9, under UP: stage 1 is refused with ORDER while 2 is OPEN, and REGROUT takes it out of turn. -/
theorem test_seat_under_up :
    let s := { put 7 (standing .primed) yard with
      plant := { yard.plant with method := .up }
      book := [stageRec k14 1 400 5 .opened, stageRec k14 2 460 5 .opened] }
    replyTo (.seat 7 k14 1 .absent) s = some (.no .order) ∧ replyTo (.seat 7 k14 2 .absent) s = some (.ok []) ∧
    (run (.seat 7 k14 1 .given) s).book[0]?.map (·.regrouts) = some 1 := by decide +kernel

/-- Clock 1164: the twentieth sample at or above SEATP; gauge 4 is joined with its heave of 20 as baseline, and the collar's 35
kPa is the seat reference. -/
theorem test_seated :
    let s := run (.seated 2 ⟨4056, 8120, 0, 0⟩) (put 2 (fun l =>
      { standing .seating l with bound := some ⟨k14, 3⟩, condCount := 19 }) yard)
    (s.line 2).state = .seated ∧ (s.line 2).seatRef = 35 ∧ (s.line 2).watched = [4] ∧ (s.line 2).heaveMax = some 0 ∧
    (s.gauge 4).state = .watch ∧ (s.gauge 4).baseline = 20 ∧
    s.lineHolds[2].entries = [⟨.seated, 1000, some (.line 2), some (.num 4120), none⟩] := by decide +kernel

/-- R27: a minute short of SEATP is a seat failure; the record is OPEN again and the line PRIMED. -/
theorem test_seat_fail :
    let s := run (.seatFail 2 ⟨4056, 7000, 0, 0⟩) (put 2 (fun l =>
      { standing .seating l with bound := some ⟨k14, 3⟩, stateTicks := 599 }) yard)
    (s.line 2).state = .primed ∧ (s.line 2).bound = none ∧ s.book[2]?.map (·.status) = some .opened ∧
    s.lineHolds[2].entries = [⟨.seatFail, 1000, some (.line 2), some (.num 3000), none⟩] := by decide +kernel

/-- Clock 1170: INJECT 2 1 0 2 RELEASE behind line 5 in A's queue. -/
theorem test_inject_arms_behind_the_head :
    let s := { put 2 (fun l => { standing .seated l with bound := some ⟨k14, 3⟩ })
        (put 5 (fun l => { staged .armed k14 4 l with circ := ⟨some 0, true, 9, false⟩ }) yard) with
      tankA := { yard.tankA with startQueue := [5] } }
    let t := run (.inject 2 1 0 2 .given) s
    (t.line 2).state = .armed ∧ t.tankA.startQueue = [5, 2] ∧ (t.line 2).releaseFlag = true ∧
    (t.line 2).fig.mixList = [2] ∧ replyTo (.inject 2 2 0 2 .given) s = some (.no .absent) ∧
    replyTo (.inject 2 4 0 2 .given) s = some (.no .range) := by decide +kernel

/-- Clock 1215: the twentieth second after line 5's start grants line 2's. -/
theorem test_stagger_grants_the_next_start :
    let s := { put 2 (fun l => { staged .armed k14 3 l with startClock := none }) yard with
      clock := 1214, tankA := { yard.tankA with startQueue := [2], stagger := 19 } }
    let t := run .partClockSecond s
    (t.line 2).state = .injecting ∧ (t.line 2).startClock = some 1215 ∧ t.tankA.startQueue = [] ∧ t.tankA.stagger = 0 ∧
    t.lineHolds[2].entries = [⟨.started, 1215, some (.line 2), some (.num 0), none⟩] := by decide +kernel

/-- 5.10.3: START GRANT answers the head of the queue, but not a head with a circulation run. -/
theorem test_start_grant :
    let s := fun running => { put 2 (fun l => { staged .armed k14 3 l with circ := ⟨some 0, running, 0, false⟩ }) yard with
      tankA := { yard.tankA with startQueue := [2, 4], stagger := 40 } }
    (run (.startGrant .tankA) (s true)).tankA.startQueue = [2, 4] ∧
    (run (.startGrant .tankA) (s false)).tankA.startQueue = [4] ∧ (run (.startGrant .tankA) (s false)).tankA.stagger = 0
    := by decide +kernel

/-- Clock 2410: PAUSE counts 1. Clock 2470: RESUME is granted at once, A's last start 1215 being long ago. -/
theorem test_pause_and_resume :
    let p := run (.pause 2) (two .injecting)
    let r := run (.resume 2) (two .paused)
    (p.line 2).state = .paused ∧ (p.line 2).pauses = 1 ∧ (p.line 2).pauseCause = some .order ∧
    (r.line 2).state = .injecting ∧ (r.line 2).startClock = some 1215 ∧ (r.line 2).pauseCause = none := by decide +kernel

/-- 4.12 step 4: CANCEL of a line that has not started returns it to SEATED, its envelope and window let go. -/
theorem test_cancel :
    let s := put 1 (fun l => { staged .armed k14 3 l with startClock := none }) yard
    ((run (.cancel 1) s).line 1).state = .seated ∧ ((run (.cancel 1) s).line 1).envelope = none ∧
    ((run (.cancel 1) s).line 1).window = none := by decide +kernel

/-- 11.4 at 30610: END 0 while PAUSED builds the result: take 192, final G 122. -/
theorem test_end_builds_the_result :
    let s := put 0 (fun l => { staged .paused k14 3 l with
      heaveMax := some 205, pauses := 1, startClock := some 29300
      fig := { l.fig with volume := 96000, lastPe := 640, maxPe := 910, lastTake := 192, lastIntensity := 122, mixList := [2] } })
        { yard with clock := 30610 }
    (run (.endStage 0) s).results = [⟨k14, 3, 0, 29300, 30610, .ordered, 96000, 192, 910, 640, 122, [2], 0, 1, false, some 205⟩] ∧
    ((run (.endStage 0) s).line 0).state = .shutIn := by decide +kernel

/-- 6.8: ABORT hands over the result and sets the release flag. -/
theorem test_abort :
    let s := run (.abort 2) (two .injecting)
    (s.line 2).state = .decaying ∧ (s.line 2).releaseFlag = true ∧ (s.line 2).endReason = some .aborted ∧
    s.results.map (·.reason) = [.aborted] := by decide +kernel

/-- Clock 4930: the shut-in timer reaches 300 s. -/
theorem test_shut_in_end :
    ((run (.shutInEnd 2 quiet) (put 2 (fun l => { l with stateTicks := 2999 }) (two .shutIn))).line 2).state = .decaying ∧
    ((run (.shutInEnd 2 quiet) (put 2 (fun l => { l with stateTicks := 2998 }) (two .shutIn))).line 2).state = .shutIn
    := by decide +kernel

/-- Clock 4998: Pc at or below RELP on ten samples, with the release flag set. -/
theorem test_decayed :
    let s := run (.decayed 2 quiet) (put 2 (fun l => { l with condCount := 9, releaseFlag := true }) (two .decaying))
    (s.line 2).state = .releasing ∧ s.lineHolds[2].entries = [⟨.decayed, 1000, some (.line 2), none, none⟩] := by decide +kernel

/-- R38: five minutes without decay raise DECAY SLOW once, with Pc. -/
theorem test_decay_slow :
    let s := run (.decaySlow 2 ⟨4800, 8120, 0, 0⟩) (put 2 (fun l => { l with stateTicks := 2999 }) (two .decaying))
    (s.line 2).state = .decaying ∧ (s.line 2).slowMark = true ∧
    s.lineHolds[2].entries = [⟨.decaySlow, 1000, some (.line 2), some (.num 500), none⟩] := by decide +kernel

/-- 6.8 at 5009: RELEASING completes with REFUSAL; K14 3 becomes DONE and its mark is set, and gauge 4 loses its watcher. -/
theorem test_released :
    let s := run (.released 2 ⟨4000, 4100, 0, 0⟩) (put 2 (fun l =>
      { l with condCount := 9, endReason := some .refusal, watched := [4], envelope := none, window := none })
      { two .releasing with gauges := yard.gauges.set 4 { yard.gauge 4 with state := .watch } })
    (s.line 2).state = .primed ∧ (s.line 2).bound = none ∧ s.book[2]?.map (·.status) = some .done ∧ s.mark k14 3 = true ∧
    (s.gauge 4).state = .idle := by decide +kernel

/-- R41: DEFLATE SLOW after a minute, with the packer pressure; the packer is empty at 100 kPa. -/
theorem test_deflate_slow :
    let s := fun packer => run (.deflateSlow 2 ⟨4000, packer, 0, 0⟩) (put 2 (fun l => { l with stateTicks := 599 }) (two .releasing))
    (s 4101).lineHolds[2].entries = [⟨.deflateSlow, 1000, some (.line 2), some (.num 101), none⟩] ∧
    ((s 4101).line 2).condCount = 0 ∧ ((s 4100).line 2).condCount = 1 := by decide +kernel

/-- R39: RELEASE is refused with PRESSURE above RELP, and FORCE releases a DECAYING line. -/
theorem test_release :
    let s := fun st => put 2 (fun l => { l with inputs := { l.inputs with collar := ⟨51, false, 0⟩ } }) (two st)
    replyTo (.release 2 .absent) (s .seated) = some (.no .pressure) ∧ replyTo (.release 2 .absent) (s .decaying) = some (.no .state) ∧
    ((run (.release 2 .given) (s .decaying)).line 2).state = .releasing := by decide +kernel

/-- R43, R44: WASH and its end. -/
theorem test_wash :
    let s := run (.wash 3) (put 3 (standing .primed) yard)
    let t := run (.washed 3 quiet) (put 3 (fun l => { l with state := .washing, stateTicks := 1799 }) yard)
    (s.line 3).state = .washing ∧ (s.line 3).columnMix = none ∧ (s.line 3).circ.age = none ∧ (s.line 3).fig.pumpRate = 150 ∧
    (t.line 3).state = .dry ∧ (t.line 3).fig.pumpRate = 0 := by decide +kernel

/-! ## The injection computation (3.12) -/

/-- 3.12.1: the figures after the sample. -/
theorem test_worked_sample :
    let s := run (.lineSampleEvent 3 workedSample) worked
    let f := (s.line 3).fig
    f.volume = 412000 ∧ f.mixVolume = 260000 ∧ f.lastPe = 1771 ∧ f.lastTake = 824 ∧ f.lastIntensity = 1459 ∧
    f.lastAllowed = 1820 ∧ f.lastTarget = 1820 ∧ f.dwellCount = 3121 ∧ f.refusalCount = 0 ∧ f.pumpRate = 368 ∧
    (s.line 3).inputs.flow = 85 ∧ s.tankA.level = 799986 ∧ (s.line 3).pendingMix = none := by decide +kernel

/-- 3.12.2: the first sample of the stage. -/
theorem test_first_sample :
    let f := ((run (.lineSampleEvent 3 ⟨4000, 8120, 0, 0⟩) (put 3 (fun l => { workedLine l with
      inputs := { l.inputs with tareOffset := 185 }
      fig := { Figures.powerOn with mixList := [2] } }) yard)).line 3).fig
    f.lastPe = 416 ∧ f.lastAllowed = 3000 ∧ f.lastTarget = 1000 ∧ f.pumpRate = 20 ∧ f.dwellCount = 1 ∧ f.lastIntensity = 0
    := by decide +kernel

/-- 3.12.3: the front's arrival on the same sample makes mix 3 the column mix. -/
theorem test_front_arrives :
    let s := run (.lineSampleEvent 3 workedSample) (put 3 (fun l => { workedLine l with front := 6, drawMix := some 3 }) yard)
    (s.line 3).front = 0 ∧ (s.line 3).columnMix = some 3 ∧ (s.line 3).fig.mixList = [2, 3] ∧ (s.line 3).fig.lastPe = 1779
    := by decide +kernel

/-- 3.12.3: thickening asks for mix 3 and raises THICKEN. -/
theorem test_thickening :
    let s := run (.lineSampleEvent 3 ⟨5191, 8120, 0, 0⟩) (put 3 (fun l => { workedLine l with
      inputs := { l.inputs with tareOffset := 185, window := [0, 7, 7, 7, 7, 7, 7, 7, 7, 8] }
      fig := { (workedLine l).fig with volume := 452000, mixVolume := 300000 } }) yard)
    (s.line 3).fig.lastTarget = 1659 ∧ (s.line 3).pendingMix = some 3 ∧
    s.lineHolds[3].entries.map (·.kind) = [.thicken] ∧ s.lineHolds[3].entries.map (·.value) = [some (.num 3)] := by decide +kernel

/-- 3.12.4: Pe 3320 trips above 3300; the rate is 0 at once. -/
theorem test_tripped_sample :
    let s := run (.lineSampleEvent 3 ⟨8943, 8120, 0, 0⟩) (put 3 (fun l => { workedLine l with
      inputs := { l.inputs with tareOffset := 185, window := List.replicate 10 0 }
      fig := { (workedLine l).fig with volume := 200000, pumpRate := 410 } }) yard)
    (s.line 3).fig.lastPe = 3320 ∧ (s.line 3).fig.tripMark = true ∧ (s.line 3).fig.pumpRate = 0 ∧
    s.lineHolds[3].entries = [⟨.overpressure, 1000, some (.line 3), some (.num 3320), some (.num 3300)⟩] := by decide +kernel

/-- R68 after a SET RMAX that lowered the rate to 300 between samples: the cap is the rate of the last sample, 356. -/
theorem test_warn_cap_after_a_lowered_rmax :
    let f := ((run (.lineSampleEvent 3 workedSample) (put 3 (fun l => { workedLine l with
      settings := { (workedLine l).settings with rmax := 300 }
      fig := { (workedLine l).fig with pumpRate := 300 } })
        { yard with gauges := yard.gauges.set 5 { yard.gauge 5 with state := .warn } })).line 3).fig
    f.warnCap = some 356 ∧ f.pumpRate = 300 := by decide +kernel

/-- 4.10: on sample 3000 point 1 is stepped to, its dwell count at 0 and its target in use. -/
theorem test_profile_step :
    let f := ((run (.profileStep 3 workedSample) (put 3 (fun l => { workedLine l with
      fig := { (workedLine l).fig with pointIndex := 0, dwellCount := 2999 } }) yard)).line 3).fig
    f.pointIndex = 1 ∧ f.dwellCount = 0 ∧ f.lastTarget = 1500 := by decide +kernel

/-- R64, R65: the refusal timer reaches 600 s. -/
theorem test_refusal :
    let s := run (.refusal 3 ⟨6504, 8120, 0, 0⟩) (put 3 (fun l => { workedLine l with
      inputs := { l.inputs with tareOffset := 185, window := List.replicate 10 0 }
      fig := { (workedLine l).fig with volume := 400000, refusalCount := 5999 } }) yard)
    (s.line 3).state = .shutIn ∧ (s.line 3).endReason = some .refusal ∧ s.results.map (·.reason) = [.refusal] ∧
    s.results.map (·.volume) = [400000] := by decide +kernel

/-- 11.3: line 1's last sample, V 560,000 and Pe 1320: INTENSITY at 1478, take 1120. -/
theorem test_intensity_end :
    let s := run (.lineSampleEvent 3 ⟨5743, 8120, 0, 0⟩) (put 3 (fun l => { workedLine l with
      inputs := { l.inputs with tareOffset := 185, window := List.replicate 10 0 }
      fig := { (workedLine l).fig with volume := 560000 } }) yard)
    (s.line 3).fig.lastPe = 1320 ∧ (s.line 3).fig.lastIntensity = 1478 ∧ s.results.map (·.reason) = [.intensity] ∧
    s.results.map (·.take) = [1120] := by decide +kernel

/-! ## Engineer orders and tables (4.12) -/

/-- 4.12: line 3 INJECTING on envelope 1 and window 0, line 1 ARMED on envelope 1 and window 1. -/
def tables : State :=
  put 1 (fun l => { staged .armed k14 4 l with startClock := none, window := some 1 }) (put 3 (staged .injecting k16 3) yard)

/-- 4.12 steps 1, 2, 3 and 6: what is in use is BUSY, what is not is taken. -/
theorem test_tables_in_use :
    replyTo (.point 2 1800 0) tables = some (.no .busy) ∧ replyTo (.point 6 2500 120) tables = some (.ok []) ∧
    (run (.point 6 2500 120) tables).points[6] = ⟨2500, 120⟩ ∧ replyTo (.profile 1 3 4) tables = some (.no .busy) ∧
    replyTo (.envdef 1 envelope1) tables = some (.no .busy) ∧
    (run (.envdef 2 ⟨2000, 150, 1200, 5, 300, 80, 40, 60⟩) tables).envelopes[2] = some ⟨2000, 150, 1200, 5, 300, 80, 40, 60⟩ ∧
    replyTo (.envdef 2 ⟨99, 150, 1200, 5, 300, 80, 40, 60⟩) tables = some (.no .range) := by decide +kernel

/-- 4.12 steps 4 and 5: CANCEL 1 frees window 1. -/
theorem test_profile_after_cancel :
    (run (.profile 1 3 4) (run (.cancel 1) tables)).windows[1] = some ⟨3, 4⟩ ∧
    replyTo (.profile 1 250 7) tables = some (.no .range) := by decide +kernel

/-- R81, R86: the read forms give the fields and the holders. -/
theorem test_tables_read :
    replyTo (.pointRead 0) tables = some (.ok [.num 0, .num 1000, .num 300, .flag true]) ∧
    replyTo (.profileRead 0) tables = some (.ok [.num 0, .num 0, .num 3, .num 3]) ∧
    replyTo (.envdefRead 1) tables =
      some (.ok [.num 1, .num 3000, .num 200, .num 1500, .num 10, .num 600, .num 100, .num 50, .num 60, .num 1, .num 3]) ∧
    replyTo (.envdefRead 3) tables = some (.no .absent) := by decide +kernel

/-- R90, R91: density rises with the index, a mix in use is BUSY, and DROPMIX of an undefined one is ABSENT. -/
theorem test_mix_table :
    replyTo (.mixdef 5 ⟨['E'], 60, 1760, 80, 30⟩) yard = some (.no .order) ∧
    replyTo (.mixdef 5 ⟨['E'], 60, 1761, 80, 30⟩) yard = some (.ok []) ∧
    replyTo (.mixdef 2 ⟨['E'], 60, 1600, 80, 30⟩) yard = some (.no .busy) ∧
    replyTo (.dropmix 6) yard = some (.no .absent) ∧ (run (.dropmix 4) yard).mixEntry 4 = none ∧
    replyTo (.mixdefRead 4) yard =
      some (.ok [.num 4, .word ['D'], .num 70, .num 1760, .num 60, .num 45, .flag false]) := by decide +kernel

/-- R19: SET Ln judges RANGE, then STATE; R170: the read form gives the value as it stands. -/
theorem test_set_line :
    ((run (.setLine 3 (.number .gain 128)) tables).line 3).settings.gain = 128 ∧
    replyTo (.setLine 3 (.number .hose 30000)) tables = some (.no .state) ∧
    replyTo (.setLine 8 (.number .gain 128)) tables = some (.no .range) ∧
    replyTo (.setRead (some (.gauge 4 .span))) tables = some (.ok [.word ['G', '4'], .word ['S', 'P', 'A', 'N'], .num 5000]) ∧
    replyTo .restart State.reset = some (.no .key) := by decide +kernel

/-- R93, R121, R161. -/
theorem test_set_plant :
    (run (.setAgitatorPlant (.agitator .tankB (some .cap) 900)) yard).tankB.cap = 900 ∧
    replyTo (.setAgitatorPlant (.agitator .tankA (some .cap) 799)) yard = some (.no .state) ∧
    replyTo (.setAgitatorPlant (.agitator .tankA (some .low) 1000)) yard = some (.no .range) ∧
    (run (.setPlantMethod (some .up)) yard).plant.method = .up ∧ (run (.setPlantCirc .circi 60) yard).plant.circi = 60 ∧
    replyTo (.setPlantCirc .circi 59) yard = some (.no .range) := by decide +kernel

/-- R148: REPORT is not allowed for SENSOR. -/
theorem test_response :
    (run (.response (some .drop) (some .all)) yard).responses.drop = .all ∧
    replyTo (.response (some .sensor) (some .report)) yard = some (.no .range) ∧
    replyTo (.responseRead (some .overp)) yard = some (.ok [.word ['O', 'V', 'E', 'R'], .word ['R', 'E', 'P', 'O', 'R', 'T']])
    := by decide +kernel

/-- R177: RESTART empties the book and is refused while a line is neither DRY nor FOULED. -/
theorem test_restart :
    (run .restart yard).book = [] ∧ (run .restart yard).tankA.level = 0 ∧ (run .restart yard).clock = 1000 ∧
    replyTo .restart tables = some (.no .state) := by decide +kernel

/-! ## The plant (5.10) -/

/-- 5.10.1: lines 3 and 5 INJECTING on A with 3 as their pending mix, A at 270,000 mL; MIXING the CHANGE into B. -/
def changing : State :=
  let l := fun (l : Line) => { staged .injecting k16 3 l with pendingMix := some 3 }
  { put 3 l (put 5 l yard) with
    clock := 3239
    tankA := { yard.tankA with level := 270000 }
    tankB := { yard.tankB with state := .receivingChange, mix := none, level := 0 }
    mixer := .mixing .tankB ⟨.one .tankB, 3, .change, .line 3⟩
    phaseTimer := 179 }

/-- R114: a RELEASE that ends a circulation run settles the plant, which makes the TOPUP of A due at 100,000 mL; one that ends none
does not. -/
theorem test_release_settles_with_run :
    let s := fun r => put 2 (fun l => { staged .seated k14 3 l with circ := ⟨some 0, r, 0, false⟩ })
      { yard with tankA := { yard.tankA with level := 100000 } }
    (run (.release 2 .given) (s true)).mixer = .mixing .tankA ⟨.one .tankA, 2, .topup, .auto⟩ ∧
    (run (.release 2 .given) (s false)).mixer = .idle ∧ (run (.release 2 .given) (s false)).batchQueue = [] := by decide +kernel

/-- Clock 3000: line 3's request is taken at once; B is dumped. -/
theorem test_mixer_takes_request :
    let s := run .mixerTakesRequest (put 3 (fun l => { staged .injecting k16 3 l with pendingMix := some 3 })
      { yard with batchQueue := [⟨.one .tankB, 3, .change, .line 3⟩] })
    s.tankB.state = .dumping ∧ s.mixer = .waiting .tankB ⟨.one .tankB, 3, .change, .line 3⟩ ∧ s.batchQueue = [] := by decide +kernel

/-- Clock 3060: the dump ends. -/
theorem test_dump_end :
    let s := run .dumpEnd { changing with
      clock := 3059, phaseTimer := 59, mixer := .waiting .tankB ⟨.one .tankB, 3, .change, .line 3⟩
      tankB := { yard.tankB with state := .dumping } }
    s.tankB.state = .receivingChange ∧ s.tankB.level = 0 ∧ s.tankB.mix = none ∧ s.phaseTimer = 0 ∧
    s.mixer = .mixing .tankB ⟨.one .tankB, 3, .change, .line 3⟩ := by decide +kernel

/-- Clock 3240: delivery into B, and both lines switch to it. -/
theorem test_batch_done_switches_both_lines :
    let s := run .batchDone changing
    s.tankB = { yard.tankB with mix := some 3, level := 250000 } ∧ s.mixer = .idle ∧
    s.plantHold.entries = [⟨.batchDone, 3240, some (.tank .tankB), some (.num 3), some (.num 250)⟩] ∧
    (s.line 3).draw = some .tankB ∧ (s.line 3).drawMix = some 3 ∧ (s.line 3).front = 20000 ∧ (s.line 3).mixChanges = 1 ∧
    (s.line 5).drawMix = some 3 ∧
    s.lineHolds[5].entries = [⟨.mixSwitch, 3240, some (.line 5), some (.num 3), some (.tank .tankB)⟩] := by decide +kernel

/-- Clock 3495: the top-up of 250 L joins 79,990 mL. -/
theorem test_topup_delivery :
    let s := run .batchDone { yard with
      clock := 3494, phaseTimer := 179, mixer := .mixing .tankB ⟨.one .tankB, 3, .topup, .auto⟩
      tankB := { yard.tankB with state := .receivingTopup, mix := some 3, level := 79990 } }
    s.tankB.level = 329990 ∧ s.plantHold.entries.map (·.second) = [some (.num 329)] := by decide +kernel

/-- 5.10.2 steps 1 to 3: MIX 6 4 is queued for ANY, MIX 6 3 withdraws it and switches, MIX 6 4 dumps A. -/
theorem test_mix_orders :
    let s := put 6 (staged .paused k14 4) (put 0 (fun l => { staged .injecting k14 2 l with draw := some .tankB, drawMix := some 3 })
      { yard with
        tankA := { yard.tankA with level := 300000 }
        tankB := { yard.tankB with mix := some 3, level := 600000 } })
    let t := run (.mix 6 4) s
    let u := run (.mix 6 3) t
    t.batchQueue = [⟨.any, 4, .change, .line 6⟩] ∧ (u.line 6).draw = some .tankB ∧ u.batchQueue = [] ∧
    (run (.mix 6 4) u).tankA.state = .dumping ∧ replyTo (.mix 6 2) s = some (.no .mix) := by decide +kernel

/-- R110, 5.10.2: SWITCHOVER of the line whose pending mix stands READY on the other agitator. -/
theorem test_switchover :
    let s := run (.switchover 6) (put 6 (fun l => { staged .paused k14 4 l with pendingMix := some 1 }) yard)
    (s.line 6).draw = some .tankB ∧ (s.line 6).drawMix = some 1 ∧ (s.line 6).columnMix = some 2 := by decide +kernel

/-- R97, R101: LEVEL clamps to the capacity, and BATCH queues a TOPUP for the mix that the agitator holds. -/
theorem test_level_and_batch :
    (run (.level (some .tankA) 3000) yard).tankA.level = 1000000 ∧ replyTo (.level (some .tankA) 3001) yard = some (.no .range) ∧
    (run (.level (some .tankB) 0) yard).tankB.state = .empty ∧
    (run (.batch (some .tankB) 1) yard).mixer = .mixing .tankB ⟨.one .tankB, 1, .topup, .order⟩ ∧
    replyTo (.batch (some .tankB) 5) yard = some (.no .absent) := by decide +kernel

/-! ## The stage book and the results (6.8, 11.5) -/

/-- 6.8: the reply of BOOK at clock 4900. -/
theorem test_book :
    replyTo (.book none) yard = some (.ok [.num 7, .num 1, .num 2, .num 4, .num 2, .word ['D', 'O', 'W', 'N']]) ∧
    replyTo (.book (some 7)) yard = some (.no .absent) ∧ replyTo (.book (some 48)) yard = some (.no .range) ∧
    replyTo (.stage k14 3) yard = some (.ok [.word k14, .num 3, .num 240, .num 290, .nums [4],
      .word ['S', 'E', 'A', 'T', 'E', 'D', '-', 'O', 'N'], .num 2, .num 0, .num 0, .flag false]) := by decide +kernel

/-- 6.8 at 5030 to 5060. -/
theorem test_stage_orders :
    let s := run (.stageDrop k14 1) yard
    let t := run (.stageAdd k14 1 140 190 [4]) s
    s.book.length = 6 ∧ replyTo (.stageDrop k14 3) yard = some (.no .state) ∧ t.book[6]? = some (stageRec k14 1 140 4 .opened) ∧
    replyTo (.stageAdd k14 1 140 190 [4]) t = some (.no .exists) ∧ replyTo (.holeClear k14) t = some (.no .busy) ∧
    (run (.holeClear k14) { t with book := [] }).holes.map (·.hole) = [k16] ∧
    replyTo (.map k14) t = some (.ok ([.word k14, .flag true, .flag true] ++ List.replicate 18 (.flag false) ++ [.num 4]))
    := by decide +kernel

/-- 11.5 at 40600: TAKE removes the oldest of sixteen, and the pending result with the lower end clock joins the tail. -/
theorem test_take_moves_the_oldest_pending :
    let r := fun (n : LineId) (clock : Clock) => (⟨k14, 3, n, 0, clock, .volume, 0, 0, 0, 0, 0, [2], 0, 0, false, none⟩ : StageResult)
    let s := put 3 (fun l => { l with pendingResult := some (r 3 40100) }) (put 5 (fun l => { l with
      pendingResult := some (r 5 40050) }) { yard with results := List.replicate 16 (r 0 39000) })
    let t := run .take s
    t.results.length = 16 ∧ t.results[15]? = some (r 5 40050) ∧ (t.line 5).pendingResult = none ∧
    (t.line 3).pendingResult = some (r 3 40100) ∧ replyTo .take yard = some (.no .empty) ∧
    replyTo (.seat 5 k14 1 .absent) (put 5 (fun l => { standing .primed l with pendingResult := some (r 5 0) })
      { yard with book := [stageRec k14 1 140 4 .opened] }) = some (.no .pending) := by decide +kernel

/-! ## Gauges (7.10) -/

/-- The yard with gauge 4 of 7.10 in state `st` under line 2, INJECTING. -/
def heaved (st : GaugeState) (maximum : Nat) : State :=
  { put 2 (fun l => { l with watched := [4], heaveMax := some maximum }) (two .injecting) with
    gauges := yard.gauges.set 4 { yard.gauge 4 with state := st, baseline := 20, maximum := maximum } }

/-- 7.10 at 1901, 1960 and 2200. -/
theorem test_gauge_samples :
    let w := run (.gaugeSampleEvent 4 12200) (heaved .watch 80)
    let b := run (.gaugeSampleEvent 4 12150) (heaved .warn 105)
    let a := run (.gaugeSampleEvent 4 12368) (heaved .watch 105)
    (w.gauge 4).state = .warn ∧ (w.gauge 4).maximum = 105 ∧ (w.line 2).heaveMax = some 105 ∧
    w.plantHold.entries = [⟨.upliftWarn, 1000, some (.gauge 4), some (.num 105), none⟩] ∧
    (b.gauge 4).state = .watch ∧ (b.gauge 4).heave = 93 ∧
    (a.gauge 4).state = .alarm ∧ (a.line 2).state = .paused ∧ (a.line 2).pauseCause = some .uplift ∧
    (a.line 2).heaveMax = some 210 ∧
    a.plantHold.entries = [⟨.upliftAlarm, 1000, some (.gauge 4), some (.num 210), some (.lines [2])⟩] := by decide +kernel

/-- 7.10: a relative heave of 82 leaves the gauge in WARN. -/
theorem test_warn_has_hysteresis : ((run (.gaugeSampleEvent 4 12164) (heaved .warn 105)).gauge 4).state = .warn := by decide +kernel

/-- 7.10 at 2231 and 2405. -/
theorem test_uplift_clear :
    let s := fun heave : Int => { heaved .alarm 210 with
      gauges := (heaved .alarm 210).gauges.set 4 { (heaved .alarm 210).gauge 4 with heave := heave } }
    replyTo (.upliftClear 4) (s 230) = some (.no .state) ∧ ((run (.upliftClear 4) (s 90)).gauge 4).state = .watch ∧
    (run (.upliftClear 4) (s 90)).plantHold.entries = [⟨.upliftClear, 1000, some (.gauge 4), some (.num 70), none⟩]
    := by decide +kernel

/-- 7.10.1 at 6009 and 6410: gauge 5 under line 3. -/
theorem test_gauge_fault_and_restored :
    let s := fun (q : Gauge) => { worked with gauges := worked.gauges.set 5 q }
    let f := run (.gaugeFault 5 0) (s { worked.gauge 5 with faults := 9 })
    let r := run (.gaugeRestored 5 11936) (s { worked.gauge 5 with state := .fault, heave := -40, goods := 9, baseline := -7 })
    (f.gauge 5).state = .fault ∧ (f.gauge 5).heave = -35 ∧
    f.plantHold.entries = [⟨.gaugeFault, 1000, some (.gauge 5), some (.num 0), none⟩] ∧
    (r.gauge 5).state = .watch ∧ (r.gauge 5).goods = 10 ∧ (r.gauge 5).baseline = -40 ∧ (r.gauge 5).maximum = 0 ∧
    r.plantHold.entries = [⟨.gaugeRestored, 1000, some (.gauge 5), some (.num (-40)), none⟩] := by decide +kernel

/-- R129: SPAN of a watched gauge is BUSY; R137: the reply of GAUGE. -/
theorem test_gauge_orders :
    replyTo (.setGauge 4 (some .span) 6000) (heaved .watch 0) = some (.no .busy) ∧
    ((run (.setGauge 7 (some .on) 1) yard).gauge 7).state = .idle ∧
    replyTo (.setGauge 4 (some .warn) 200) yard = some (.no .range) ∧
    replyTo (.gauge 4) (heaved .watch 80) = some (.ok [.num 4, .word ['W', 'A', 'T', 'C', 'H'], .flag true, .num 5000, .num 100,
      .num 200, .num 20, .num 20, .num 20, .num 0, .num 80, .num 0, .nums [2]]) := by decide +kernel

/-! ## Protective responses, site stop and keys (8.3.1, 8.4, 8.6.1) -/

/-- The worked line with the reference 2015 of 8.3.1, its target high and no flow. -/
def dropping (period holdOff : Nat) : State :=
  put 3 (fun l => { workedLine l with
    inputs := { l.inputs with tareOffset := 185, window := List.replicate 10 0 }
    latch := { l.latch with reference := some 2015, period := period, holdOff := holdOff }
    fig := { (workedLine l).fig with volume := 100000 } }) yard

/-- Sample 132: 313 kPa below the reference, DROP pauses the line with cause PROTECT. -/
theorem test_drop_pauses :
    let s := run (.lineSampleEvent 3 ⟨6354, 8120, 0, 0⟩) (dropping 6 0)
    (s.line 3).fig.lastPe = 1702 ∧ (s.line 3).state = .paused ∧ (s.line 3).pauseCause = some .protect ∧
    s.lineHolds[3].entries = [⟨.drop, 1000, some (.line 3), some (.num 1702), some (.num 2015)⟩,
      ⟨.paused, 1000, some (.line 3), some (.cause .protect), none⟩] := by decide +kernel

/-- R142: the tenth tested sample takes the new reference. -/
theorem test_drop_reference_taken :
    let s := run (.dropReferenceTaken 3 ⟨6855, 8120, 0, 0⟩) (dropping 9 0)
    (s.line 3).fig.lastPe = 2015 ∧ (s.line 3).latch.period = 0 ∧ (s.line 3).latch.reference = some 2015 := by decide +kernel

/-- Sample 125: the hold-off ends with a reference taken at the settled pressure. -/
theorem test_hold_off_end :
    let s := run (.holdOffEnd 3 ⟨6600, 8120, 0, 0⟩) (dropping 4 1)
    (s.line 3).latch.holdOff = 0 ∧ (s.line 3).latch.reference = some (s.line 3).fig.lastPe ∧ (s.line 3).latch.period = 0
    := by decide +kernel

/-- R145: PACKER LOW on the tenth sample below SEATP − PMARGIN = 3500 pauses the line. -/
theorem test_packer_low :
    let s := run (.packerLow 2 ⟨4000, 7499, 0, 0⟩) (put 2 (fun l => { l with latch := { l.latch with packerCount := 9 } })
      (two .seated))
    (s.line 2).latch.packerMark = true ∧
    s.lineHolds[2].entries = [⟨.packerLow, 1000, some (.line 2), some (.num 3499), some (.num 3500)⟩] := by decide +kernel

/-- 8.4: line 6 at 275 kPa with reference 60 while lines 2 and 3 inject. -/
theorem test_communication :
    let s := run (.lineSampleEvent 6 ⟨4440, 8120, 0, 0⟩) (put 6 (fun l => { staged .seated k14 4 l with seatRef := 60 })
      (put 3 (staged .injecting k16 3) (two .injecting)))
    (s.line 6).latch.commMark = true ∧
    s.lineHolds[6].entries = [⟨.communication, 1000, some (.line 6), some (.num 275), some (.lines [2, 3])⟩] := by decide +kernel

/-- 8.6.1: what the opening of the loop does to an INJECTING, an ARMED and a PRIMING line, and its closing. -/
theorem test_site_stop :
    let priming := fun l : Line =>
      { l with state := .priming, draw := some .tankA, stateTicks := 500, fig := { l.fig with pumpRate := 150 } }
    let injecting := fun l : Line => { staged .injecting k14 3 l with pauses := 1 }
    let s := run .siteStopOpen (put 2 priming (put 1 (staged .armed k14 4) (put 0 injecting
      { yard with clock := 8000, tankA := { yard.tankA with startQueue := [1] } })))
    let t := run .siteStopClose s
    (s.line 0).state = .paused ∧ (s.line 0).pauses = 2 ∧ (s.line 1).pauseCause = some .siteStop ∧ s.tankA.startQueue = [] ∧
    (s.line 2).state = .priming ∧ (s.line 2).fig.pumpRate = 0 ∧
    s.plantHold.entries = [⟨.siteStop, 8000, none, none, none⟩] ∧ replyTo (.resume 0) s = some (.no .stopped) ∧
    (t.line 0).state = .paused ∧ (t.line 2).fig.pumpRate = 150 := by decide +kernel

/-- R154, R155: a key at LOCAL pauses its line and locks it. -/
theorem test_keys :
    let s := run (.keyToLocal 2) (two .injecting)
    (s.line 2).pauseCause = some .locl ∧ replyTo (.resume 2) s = some (.no .locked) ∧
    ((run (.keyToRemote 2) s).line 2).key = .remote ∧ (run (.configurationKeyTurn .run) yard).config = .run := by decide +kernel

/-! ## Circulation (9.4) -/

/-- 9.4.1 at 5009 and 5039: a due run starts on a READY agitator, and ends after 300 run samples. -/
theorem test_circulation_run :
    let s := run (.circulationRunDue 2 quiet) (put 2 (fun l => { standing .primed l with circ := ⟨some 3809, false, 0, false⟩ }) yard)
    let t := run (.circulationRunEnd 2 quiet) (put 2 (fun l => { standing .primed l with circ := ⟨some 0, true, 299, false⟩ }) yard)
    (s.line 2).circ.running = true ∧ (s.line 2).fig.pumpRate = 150 ∧ (s.line 2).valves.bypass = true ∧
    (t.line 2).circ.running = false ∧ (t.line 2).circ.age = some 0 ∧ (t.line 2).fig.pumpRate = 0 := by decide +kernel

/-- R17 and R159: a due run is deferred on the samples of a tare; one first due on the sample that ends the tare starts there. -/
theorem test_deferred_run :
    let s := run (.lineSampleEvent 3 ⟨4300, 8120, 0, 0⟩) (put 3 (fun l => { standing .primed l with
      inputs := { l.inputs with tare := some ⟨18, 3330⟩ }, circ := ⟨some 3100, false, 0, false⟩ }) yard)
    let t := run (.lineSampleEvent 3 ⟨4300, 8120, 0, 0⟩) (put 3 (fun l => { standing .primed l with
      inputs := { l.inputs with tare := some ⟨19, 3517⟩ }, circ := ⟨some 2999, false, 0, false⟩ }) yard)
    (s.line 3).inputs.tareOffset = 0 ∧ (s.line 3).circ.running = false ∧ (s.line 3).circ.blocked = false ∧
    (t.line 3).inputs.tare = none ∧ (t.line 3).circ.running = true := by decide +kernel

/-- 9.4.2: line 7 on B, at level 0 with mix 4 of 45 minutes. -/
def starved (age : Nat) : State :=
  put 7 (fun l => { staged .paused k16 2 l with
    draw := some .tankB, columnMix := some 4, drawMix := some 4, circ := ⟨some age, false, 0, false⟩ })
    { yard with clock := 10300, tankB := { yard.tankB with level := 0, mix := some 4, low := 0 } }

/-- 9.4.2 at 10300: the run is blocked. -/
theorem test_circulation_blocked :
    let s := run (.circulationRunDue 7 quiet) (starved 2999)
    (s.line 7).circ.blocked = true ∧
    s.lineHolds[7].entries = [⟨.circBlocked, 10300, some (.line 7), some (.num 300), some (.tank .tankB)⟩] := by decide +kernel

/-- 9.4.2 at 11200, with mix 4's limit of 2700 s: the line fouls and its stage's result is built. -/
theorem test_fouled :
    let s := run (.fouled 7 quiet) (starved 26999)
    (s.line 7).state = .fouled ∧ (s.line 7).pauseCause = some .age ∧ s.tankB.state = .ready ∧
    s.results.map (·.reason) = [.fouled] ∧ s.book[5]?.map (·.interrupted) = some 1 ∧
    s.lineHolds[7].entries.map (·.value) = [some (.state .paused)] := by decide +kernel

/-- R160: CIRCULATE starts a run at CRATE, and is refused with BUSY while one goes on. -/
theorem test_circulate :
    let s := run (.circulate 3) (put 3 (standing .primed) yard)
    (s.line 3).circ.running = true ∧ (s.line 3).fig.pumpRate = 150 ∧ replyTo (.circulate 3) s = some (.no .busy) := by decide +kernel

/-! ## The order line (10) -/

/-- A line of characters in the receive buffer. -/
def typed (t : Text) : State := { yard with serial := { yard.serial with buffer := t } }

/-- R168, 10.5.1: an order typed in full acts on its carriage return; an unknown name is NAME, a field too many FORM. -/
theorem test_orders_from_the_line :
    (run (.characterReceived 13 false) (typed ['C', 'L', 'O', 'C', 'K', ' ', '5', '0'])).clock = 50 ∧
    replyTo (.characterReceived 13 false) (typed ['C', 'L', 'O', 'X']) = some (.no .name) ∧
    replyTo (.characterReceived 13 false) (typed ['T', 'A', 'K', 'E', ' ', '1']) = some (.no .form) ∧
    (run (.characterReceived 65 false) (typed ['T'])).serial.buffer = ['T', 'A'] := by decide +kernel

/-- R166: a spoiled line is NO LINE, and a line that ends while a reply is due waits for it. -/
theorem test_refused_and_held_lines :
    replyTo .orderLineRefused { yard with serial := { yard.serial with spoiled := true } } = some (.no .line) ∧
    (run (.characterReceived 13 false) { typed ['T'] with serial := { (typed ['T']).serial with phase := .due } }).serial.held =
      [⟨['T'], false, false⟩] ∧
    replyTo .heldLineTaken { yard with serial := { yard.serial with phase := .sending, held := [⟨['T', 'A', 'K', 'E'], false, false⟩] } }
      = some (.no .empty) := by decide +kernel

/-- R165, R166: a held RESTART leaves the line then being received alone; X TAKE, spoiled, is still to be answered NO LINE. -/
theorem test_held_restart :
    let s := run .heldLineTaken { yard with serial :=
      ⟨['X', ' ', 'T'], true, false, [⟨['R', 'E', 'S', 'T', 'A', 'R', 'T'], false, false⟩], .sending, none⟩ }
    s.book = [] ∧ s.serial.buffer = ['X', ' ', 'T'] ∧ s.serial.spoiled = true ∧ s.serial.reply = some (.ok []) := by decide +kernel

/-- R171: the reply of STATUS; R176: CLOCK. -/
theorem test_status_and_clock :
    replyTo .status tables = some (.ok [.num 1000, .word ['X', 'A', 'X', 'J', 'X', 'X', 'X', 'X'],
      .word ['0', '0', '0', '0', '0', '0', '0', '0', '0'], .word ['C', 'L', 'O', 'S', 'E', 'D'],
      .word ['E', 'N', 'A', 'B', 'L', 'E'], .word ['R', 'R', 'R', 'R', 'R', 'R', 'R', 'R'], .word ['I', 'D', 'L', 'E'],
      .word ['R', 'E', 'A', 'D', 'Y'], .word ['R', 'E', 'A', 'D', 'Y'], .num 0]) ∧
    replyTo (.clock none) yard = some (.ok [.num 1000]) ∧ replyTo (.clock (some 4294967296)) yard = some (.no .range) := by decide +kernel

/-- R172: the 61 fields of LINE for the worked case, by their places. -/
theorem test_line :
    let f := match replyTo (.line 3) worked with
      | some (.ok fs) => fs
      | _ => []
    f.length = 61 ∧ f[5 - 1]? = some (.word k16) ∧ f[10 - 1]? = some (.nums [5]) ∧ f[20 - 1]? = some (.num 411986) ∧
    f[23 - 1]? = some (.num 312) ∧ f[25 - 1]? = some (.num 356) ∧ f[53 - 1]? = some (.num 0) ∧ f[54 - 1]? = some .absent
    := by decide +kernel

/-- 10.5.1 at 3301 and 3520: POLL P empties the plant hold, and an event at a full hold is discarded. -/
theorem test_poll :
    let e : Event := ⟨.upliftWarn, 3300, some (.gauge 4), some (.num 105), none⟩
    replyTo (.poll (some .plant)) { yard with plantHold := ⟨[e], false⟩ } = some (.ok [.word ['P'], .num 1, .flag false,
      .word ['U', 'P', 'L', 'I', 'F', 'T', '-', 'W', 'A', 'R', 'N'], .num 3300, .word ['G', '4'], .num 105, .absent]) ∧
    (run .siteStopClose { yard with loop := .opened, plantHold := ⟨[e, e, e, e], false⟩ }).plantHold = ⟨[e, e, e, e], true⟩ ∧
    (run (.poll (some .plant)) { yard with plantHold := ⟨[e], true⟩ }).plantHold = ⟨[], false⟩ := by decide +kernel

/-- R112: the reply of PLANT before any batch; R18, R153: a loop found open at power-on. -/
theorem test_plant_and_power_on :
    replyTo .plant yard = some (.ok [.word ['I', 'D', 'L', 'E'], .absent, .num 0, .num 0, .word ['R', 'E', 'A', 'D', 'Y'], .absent,
      .num 2, .word ['B'], .num 800, .num 1000, .num 200, .nums [], .nums [], .num 300, .word ['R', 'E', 'A', 'D', 'Y'], .absent,
      .num 1, .word ['A'], .num 240, .num 1000, .num 200, .nums [], .nums [], .num 300]) ∧
    (run (.powerOn ⟨.opened, [4], .enable⟩) yard).plantHold.entries = [⟨.siteStop, 0, none, none, none⟩] ∧
    ((run (.powerOn ⟨.opened, [4], .enable⟩) yard).line 4).key = .locl := by decide +kernel

/-- A step takes the command at the front of the queue; no word spells a command. -/
theorem test_step :
    (after (step { yard with pending := [.clock (some 7), .status] })).clock = 7 ∧
    (after (step { yard with pending := [.clock (some 7), .status] })).pending = [.status] ∧
    decodeTableWord 8 65 = none := by decide +kernel

/-! ## Witnesses: for each statement with hypotheses, states and operands that meet those of its clauses -/

theorem unqueued_of {s : State} {n : LineId} (a : n ∉ s.tankA.startQueue) (b : n ∉ s.tankB.startQueue) : s.Unqueued n := by
  intro t; cases t <;> assumption

/-- What `AgeCalm` asks, as one Bool. -/
def ageCalm (s : State) (n : LineId) : Bool :=
  let l := s.line n
  !l.circ.running && (match l.circ.age with
    | none => true
    | some a => decide ((a + 1) / 10 < s.plant.circi) && (match s.ageLimit l with
      | none => true
      | some lim => decide ((a + 1) / 10 < lim)))

theorem ageCalm_of {s : State} {n : LineId} (h : ageCalm s n = true) : s.AgeCalm n := by
  unfold ageCalm at h
  constructor
  · simp_all
  · intro a ha; simp_all
  · intro a lim ha hl; simp_all

theorem calm_of {s : State} {n : LineId} {x : Sample} (h : ageCalm s n = true) (a : (s.line n).sensorsRaised x = 0)
    (b : (s.line n).inputs.tare = none) : s.Calm n x :=
  ⟨ageCalm_of h, a, b⟩

theorem of_some {α : Type} {o : Option α} {p : α → Prop} (v : α) (h : o = some v) (hp : p v) : ∀ x, o = some x → p x := by
  intro x hx; rw [h] at hx; cases hx; exact hp

theorem witness_StepTakesTheFrontCommand : { yard with pending := [.status, .take] }.pending = .status :: [.take] := rfl

/-- An order line of the yard. -/
def onLine (phase : TxPhase) (held : List EndedLine) (buffer : Text) (spoiled long : Bool) : State :=
  { yard with serial := ⟨buffer, spoiled, long, held, phase, none⟩ }

theorem witness_IdleStepAdvancesTheReply :
    (onLine .quiet [] [] false false).serial.phase = .quiet ∧ (onLine .due [] [] false false).serial.phase = .due ∧
    (onLine .sending [] [] false false).serial.held = [] ∧
    (onLine .sending [⟨['X'], false, false⟩] [] false false).serial.held = ⟨['X'], false, false⟩ :: [] ∧
    (onLine .sending [] [] false false).pending = [] := by decide +kernel

theorem witness_RefusedOrdersChangeNothing :
    (Instr.prime 0 (some .tankA)).operatorOrder = true ∧
    ∃ t : State, exec (.prime 0 (some .tankA)) yard = .next t ∧ t.serial.reply = some (.no .state) :=
  ⟨by decide, _, rfl, by decide +kernel⟩

theorem witness_EngineerOrdersNeedTheKey : Instr.restart.engineerOrder = true ∧ State.reset.config = .run := by decide +kernel

/-- One character short of a full buffer, a full buffer, a LF, a CR under a reply being sent, and a bad character. -/
theorem witness_CharactersJoinTheBuffer :
    (List.replicate 95 'A').length < 96 ∧ 96 ≤ (List.replicate 96 'A').length ∧ (11 : Byte) ≠ 10#8 ∧ (11 : Byte) ≠ 13#8 ∧
    (onLine .due [] (List.replicate 95 'A') false false).serial.phase ≠ .sending ∧
    (onLine .sending [] [] false false).serial.phase = .sending := by decide +kernel

/-- The order that a line spells. -/
theorem witness_orderOf :
    (orderOf (fieldsOf ['T', 'A', 'K', 'E']) = .ok .take ∧ orderOf (fieldsOf ['T', 'A', 'K', 'X']) = .error .name) ∧
    orderOf (fieldsOf ['T', 'A', 'K', 'E', ' ', '1']) = .error .form := ⟨⟨rfl, rfl⟩, rfl⟩

theorem witness_CarriageReturnTakesTheOrder :
    (∃ c ∈ ['T', 'A', 'K', 'E'], c ≠ ' ') ∧
    (onLine .quiet [] ['T', 'A', 'K', 'E'] false false).serial.phase = .quiet ∧ (∀ c ∈ [' ', ' '], c = ' ') ∧
    (onLine .quiet [] [' '] true false).serial.spoiled = true ∧ (onLine .quiet [] [' '] false true).serial.long = true :=
  ⟨⟨'T', List.Mem.head _, by decide⟩, by decide +kernel, by simp, by decide +kernel, by decide +kernel⟩

theorem witness_LinesWaitForTheReply :
    (onLine .due [] ['X'] false false).serial.phase ≠ .quiet ∧
    (onLine .sending [⟨['T', 'A', 'K', 'E'], false, false⟩] [] false false).serial.held =
      ⟨['T', 'A', 'K', 'E'], false, false⟩ :: [] ∧
    (onLine .sending [⟨[], true, false⟩] [] false false).serial.held = ⟨[], true, false⟩ :: [] := by decide +kernel

/-- A held line that is long, one that is blank, one that spells no order, and a RESTART. -/
theorem witness_LinesWaitForTheReply_held :
    (onLine .sending [⟨[], false, true⟩] [] false false).serial.held = ⟨[], false, true⟩ :: [] ∧ (∀ c ∈ [' ', ' '], c = ' ') ∧
    (∃ c ∈ ['T', 'A', 'K', 'X'], c ≠ ' ') ∧ Instr.take ≠ .restart ∧
    (orderOf (fieldsOf ['R', 'E', 'S', 'T', 'A', 'R', 'T']) = .ok .restart ∧
      orderOf (fieldsOf ['R', 'E', 'S', 'T', 'A', 'R', 'T', ' ', '1']) = .error .form) :=
  ⟨rfl, by simp, ⟨'T', List.Mem.head _, by decide⟩, by decide, rfl, rfl⟩

/-- RANGE at 0 and 256 for GAIN; STATE for HOSE of an INJECTING line; taken at 1 and 255, for HOSE of a FOULED line, and for RMAX
of an INJECTING one. -/
theorem witness_SetLineChangesOneSetting :
    yard.config = .enable ∧ ¬(1 ≤ 0 ∧ 0 ≤ 255) ∧ ¬(1 ≤ 256 ∧ 256 ≤ 255) ∧ (1 ≤ 1 ∧ 255 ≤ 255) ∧ (1000 ≤ 1000 ∧ 1000 ≤ 200000) ∧
    ((two .injecting).line 2).state ≠ .dry ∧ ((two .injecting).line 2).state ≠ .fouled ∧
    ((two .injecting).line 1).state = .fouled ∧ ((two .injecting).line 2).state = .injecting ∧ (10 ≤ 10 ∧ 1200 ≤ 1200) := by
  decide +kernel

theorem witness_SetLineReplacesASet :
    yard.config = .enable ∧ ([.comm, .drop] : List CheckName).Nodup ∧ ([] : List HoldOnName).Nodup ∧
    ¬([.drop, .drop] : List CheckName).Nodup ∧ ¬([.rate, .rate] : List HoldOnName).Nodup := by decide +kernel

/-- CAP 99 out of range, 799 below the level, 800 taken; LOW 1000 out of range and 999 taken; both ends of the plant settings. -/
theorem witness_SetPlantChangesOneSetting :
    yard.config = .enable ∧ ¬(100 ≤ 99 ∧ 99 ≤ 3000 ∧ (yard.tank .tankA).low < 99) ∧
    ((yard.tank .tankA).low < 799 ∧ 799 * 1000 < (yard.tank .tankA).level) ∧ (yard.tank .tankA).level ≤ 800 * 1000 ∧
    ¬(1000 ≤ 2999 ∧ 1000 < (yard.tank .tankA).cap) ∧ 999 < (yard.tank .tankA).cap ∧
    (10 ≤ 10 ∧ 600 ≤ 600) ∧ (30 ≤ 30 ∧ 900 ≤ 900) ∧ (50 ≤ 50 ∧ 1000 ≤ 1000) ∧ 300 ≤ 300 ∧ 60 ≤ 60 ∧ ¬(60 ≤ 59 ∧ 59 ≤ 1800) ∧
    ¬(10 ≤ 301 ∧ 301 ≤ 300) := by decide +kernel

/-- Gauge 7 OFF, gauge 4 watched, gauge 5 not; a SEATING line whose record lists gauge 4; the values next to the neighbours. -/
theorem witness_SetGaugeChangesOneSetting :
    State.reset.config = .run ∧ yard.config = .enable ∧ 12 ≤ 12 ∧ 1 < 2 ∧ ¬(500 ≤ 499 ∧ 499 ≤ 9999) ∧ (yard.gauge 7).state = .off ∧ (yard.gauge 4).state ≠ .off ∧
    (∃ n, (4 : GaugeId) ∈ ((heaved .watch 0).line n).watched) ∧
    (((two .seating).line 2).state = .seating ∧
      (two .seating).boundRecord ((two .seating).line 2) = some (stageRec k14 3 240 4 (.seatedOn 2)) ∧
      (4 : GaugeId) ∈ (stageRec k14 3 240 4 (.seatedOn 2)).gauges) ∧
    (∀ n, (7 : GaugeId) ∉ (yard.line n).watched) ∧ (∀ n, (yard.line n).state ≠ .seating) ∧
    ((yard.gauge 4).hyst < 21 ∧ 199 < (yard.gauge 4).alarm ∧ 20 ≤ (yard.gauge 4).hyst ∧ (yard.gauge 4).alarm ≤ 200) ∧
    ((yard.gauge 4).warn < 101 ∧ 100 ≤ (yard.gauge 4).warn ∧ 99 < (yard.gauge 4).warn) := by decide +kernel

theorem witness_MixTableOrders :
    State.reset.config = .run ∧ yard.config = .enable ∧ yard.mixEntry 6 = none ∧ ¬(1 ≤ 7 ∧ 7 ≤ 6) ∧ ¬(1 ≤ 0 ∧ 0 ≤ 6) ∧
    ¬(1 ≤ ([] : Tag).length) ∧
    (yard.tank .tankA).mix = some 2 ∧ yard.mixEntry 5 = none ∧ yard.mixEntry 4 ≠ none := by decide +kernel

/-- Tags of the characters at the ends of R89's two ranges meet the tag's condition. -/
theorem witness_MixTableOrders_tag : ∀ c ∈ ['A', 'Z', '0', '9'], ('A' ≤ c ∧ c ≤ 'Z') ∨ ('0' ≤ c ∧ c ≤ '9') := by
  simp

/-- Mixes 4 and 5 of the yard are not in use. -/
theorem witness_MixTableOrders_unused : ∀ k ∈ [4, 5],
    ¬((∃ n, (yard.line n).columnMix = some k ∨ (yard.line n).drawMix = some k ∨ (yard.line n).pendingMix = some k) ∨
      (∃ a, (yard.tank a).mix = some k) ∨ (∃ r ∈ yard.batchQueue, r.mix = k) ∨
      ∃ a r, (yard.mixer = .waiting a r ∨ yard.mixer = .mixing a r) ∧ r.mix = k) := by
  have lines : ∀ n, (yard.line n).columnMix = none ∧ (yard.line n).drawMix = none ∧ (yard.line n).pendingMix = none := by
    decide +kernel
  have a : (yard.tank .tankA).mix = some 2 := rfl
  have b : (yard.tank .tankB).mix = some 1 := rfl
  have q : yard.batchQueue = [] := rfl
  have m : yard.mixer = .idle := rfl
  rintro k hk (⟨n, h⟩ | ⟨t, h⟩ | ⟨r, h, _⟩ | ⟨_, _, h, _⟩)
  · simp [lines n] at h
  · cases t <;> simp_all
  · simp [q] at h
  · simp [m] at h

/-- Mix 5 fits above mix 4 at 1761 kg/m³ and not at 1760. -/
theorem witness_MixTableOrders_ordered :
    (∀ j a, yard.mixEntry j = some a → (j < 5 → a.density < 1761) ∧ (5 < j → 1761 < a.density)) ∧
    ¬∀ j a, yard.mixEntry j = some a → (j < 5 → a.density < 1760) ∧ (5 < j → 1760 < a.density) := by
  constructor
  · intro j a h
    match j with
    | 0 => cases h
    | 1 | 2 | 3 | 4 => cases h; decide
    | 5 | 6 => cases h
    | n + 7 => cases h
  · intro h
    exact absurd ((h 4 ⟨['D'], 70, 1760, 60, 45⟩ (by decide +kernel)).1 (by decide)) (by decide)

theorem witness_TableEntriesAreReplaced :
    State.reset.config = .run ∧ tables.config = .enable ∧ (∃ n, (tables.line n).envelope = some 1) ∧ (∀ n, (tables.line n).envelope ≠ some 3) ∧
    ¬(4 < 4) ∧ (1 : EnvelopeId).val = 1 ∧ (100 ≤ 100 ∧ 10000 ≤ 10000) ∧ (∃ n, (tables.line n).window = some 1) ∧
    (∀ n, (tables.line n).window ≠ some 15) ∧ 224 + 32 ≤ 256 ∧ ¬(225 + 32 ≤ 256) ∧
    ((tables.line 1).window = some 1 ∧ tables.windows[(1 : WindowId)] = some ⟨3, 3⟩ ∧ 3 ≤ 3 ∧ 5 < 3 + 3) ∧
    (tables.pointInUse 6 = false ∧ tables.pointInUse 5 = true) := by decide +kernel

theorem witness_ReadFormsChangeNothing :
    yard.config = .enable ∧
    yard.envelopes[(1 : EnvelopeId)] = some envelope1 ∧ yard.envelopes[(3 : EnvelopeId)] = none ∧
    yard.windows[(0 : WindowId)] = some ⟨0, 3⟩ ∧ yard.windows[(15 : WindowId)] = none := by decide +kernel

theorem witness_ReadFormsChangeNothing_ranges : 4 ≤ 4 ∧ 16 ≤ 16 ∧ 256 ≤ 256 := by decide

/-- The highest clock value and one above it. -/
theorem witness_StatusLineAndClockAnswer : 4294967295 ≤ 4294967295 ∧ 4294967295 < 4294967296 := by decide

theorem witness_ResponseReplacesAnAction :
    yard.config = .enable ∧ ¬(DetectionKind.drop = .sensor ∧ Action.report = .report) ∧
    ¬(DetectionKind.sensor = .sensor ∧ Action.all = .report) := by decide +kernel

theorem witness_RestartEmptiesTheTables :
    (∃ n, (tables.line n).state ≠ .dry ∧ (tables.line n).state ≠ .fouled) ∧
    (∀ n, (dryTwo.line n).state = .dry ∨ (dryTwo.line n).state = .fouled) ∧ dryTwo.config = .enable := by decide +kernel

theorem witness_HoldsArePlacedAndPolled :
    let e : Event := ⟨.key, 0, none, none, none⟩
    ([e] : List Event).length < 2 ∧ 2 ≤ ([e, e] : List Event).length ∧ ([e, e, e] : List Event).length < 4 ∧
    4 ≤ ([e, e, e, e] : List Event).length := by decide +kernel

theorem witness_LineOrdersAreCheckedInOrder :
    8 ≤ 8 ∧ ¬(4 < 4 ∧ 0 < 16 ∧ 1 ≤ 1 ∧ 1 ≤ 6) ∧ ¬(3 < 4 ∧ 15 < 16 ∧ 1 ≤ 7 ∧ 7 ≤ 6) ∧
    ((run (.keyToLocal 2) yard).line 2).key = .locl ∧ (yard.line 2).key = .remote ∧ (run .siteStopOpen yard).loop = .opened ∧
    yard.loop = .closed ∧ ((yard.line 2).state == .dry) = false ∧ ((two .injecting).line 2).state ≠ .primed ∧
    ((two .seated).line 2).state ≠ .armed ∧ ((two .seated).line 2).state ≠ .injecting ∧ holeTagOk k14 = true ∧
    ((two .injecting).line 2).state ≠ .dry := by decide +kernel

/-- The hose is less than the level in the one, and all of it in the other, where line 3 injects from the same agitator. -/
theorem witness_PrimeFillsTheHose :
    let all := { put 3 (staged .injecting k16 3) dryTwo with tankA := { yard.tankA with level := 20000 } }
    (dryTwo.line 2).key = .remote ∧ dryTwo.loop = .closed ∧ (dryTwo.line 2).state = .dry ∧ (dryTwo.line 2).inputs.tare = none ∧
    (dryTwo.tank .tankA).state = .ready ∧ (dryTwo.line 2).settings.hose < (dryTwo.tank .tankA).level ∧
    (all.line 2).settings.hose = (all.tank .tankA).level ∧ (all.line 2).state = .dry ∧ (all.line 3).draw = some .tankA ∧
    (all.line 3).state = .injecting ∧ 0 < (all.line 2).settings.hose := by decide +kernel

/-- A tare under way; agitators DUMPING, RECEIVING for a CHANGE and EMPTY; a level one millilitre short of HOSE. -/
theorem witness_PrimeFillsTheHose_refused :
    let t := put 2 (fun l => { l with inputs := { l.inputs with tare := some ⟨0, 0⟩ } }) dryTwo
    let a := fun st level => { dryTwo with tankA := { yard.tankA with state := st, level := level } }
    ((t.line 2).inputs.tare ≠ none ∧ (t.line 2).state = .dry ∧ (t.line 2).key = .remote ∧ t.loop = .closed) ∧
    ((a .dumping 0).tank .tankA).state = .dumping ∧ ((a .receivingChange 0).tank .tankA).state = .receivingChange ∧
    ((a .empty 0).tank .tankA).state = .empty ∧
    (((a .receivingTopup 19999).tank .tankA).state = .receivingTopup ∧
      ((a .receivingTopup 19999).tank .tankA).level + 1 = ((a .receivingTopup 19999).line 2).settings.hose) ∧
    ((a .empty 0).line 2).state = .dry := by decide +kernel

theorem witness_StageOrderRuleOfTheMethod :
    yard.plant.method = .down ∧ (run (.setPlantMethod (some .up)) yard).plant.method = .up := by decide +kernel

/-- Line 5 PRIMED against the book of 6.8 as `r` replaces it. -/
def seats (b : List StageRecord) : State := { put 5 (standing .primed) yard with book := b }

theorem witness_SeatChecksTheBookAndBinds :
    let s := seats [stageRec k14 4 290 4 .opened]
    ¬(5 < 8 ∧ holeTagOk k14 = true ∧ 1 ≤ 21 ∧ 21 ≤ 20) ∧ holeTagOk k14 = true ∧ (s.line 5).key = .remote ∧ (s.line 5).state = .primed ∧ (s.line 5).inputs.tare = none ∧
    s.record k14 20 = none ∧
    (seats [stageRec k14 4 290 4 (.seatedOn 1)]).record k14 4 = some (stageRec k14 4 290 4 (.seatedOn 1)) ∧
    (seats [stageRec k14 4 290 4 .done]).record k14 4 = some (stageRec k14 4 290 4 .done) ∧
    ((put 5 (standing .primed) yard).book[2]? = some (stageRec k14 3 240 4 (.seatedOn 2)) ∧
      (put 5 (standing .primed) yard).record k14 4 = some (stageRec k14 4 290 4 .opened)) ∧
    s.stageOrderHolds k14 4 = false ∧ s.stageOrderHolds k14 3 = true ∧
    ((seats [stageRec k14 1 290 7 .opened]).record k14 1 = some (stageRec k14 1 290 7 .opened) ∧ (yard.gauge 7).state = .off) ∧
    ((seats [stageRec k14 1 290 5 .opened]).record k14 1 = some (stageRec k14 1 290 5 .opened) ∧
      (yard.gauge 5).state = .watch ∧ (s.line 5).pendingResult = none) ∧
    (∀ q ∈ (seats [stageRec k14 1 290 5 .opened]).book, q.hole = k14 → q.stage ≠ 1 → False) ∧
    ((put 5 (fun l => { standing .primed l with inputs := { l.inputs with tare := some ⟨0, 0⟩ } }) yard).line 5).inputs.tare.isSome
      = true := by decide +kernel

/-- INJECT with mix 2 on the draw agitator A, and with mix 1 that only B holds. -/
theorem witness_InjectArmsTheLine :
    let s := two .seated
    (s.line 2).key = .remote ∧ s.loop = .closed ∧ (s.line 2).state = .seated ∧ (s.line 2).bound ≠ none ∧
    s.envelopes[(1 : EnvelopeId)] ≠ none ∧ s.windows[(0 : WindowId)] ≠ none ∧ s.mixEntry 2 ≠ none ∧ s.mixEntry 1 ≠ none ∧
    (∀ g ∈ (s.line 2).watched, (s.gauge g).state ≠ .alarm) ∧ (s.line 2).inputs.collar.degraded = false ∧
    (s.line 2).draw = some .tankA ∧ s.tankHolds .tankA 2 = true ∧ s.tankHolds .tankB 1 = true ∧ s.tankHolds .tankA 1 = false := by
  decide +kernel

/-- A SEATED line without a binding; one whose envelope, or mix, is undefined; a mix in no agitator; a gauge in ALARM; a degraded
collar. -/
theorem witness_InjectArmsTheLine_refused :
    let s := two .seated
    let free := put 2 (fun l => { l with bound := none }) s
    let alarmed := put 2 (fun l => { l with watched := [4] }) { s with gauges := s.gauges.set 4 { s.gauge 4 with state := .alarm } }
    let bad := put 2 (fun l => { l with inputs := { l.inputs with collar := ⟨0, true, 1⟩ } }) s
    (s.line 2).state = .seated ∧ (s.line 2).key = .remote ∧ s.loop = .closed ∧ (free.line 2).bound = none ∧
    s.envelopes[(2 : EnvelopeId)] = none ∧ s.mixEntry 6 = none ∧
    ¬(s.envelopes[(1 : EnvelopeId)] = none ∨ s.windows[(0 : WindowId)] = none ∨ s.mixEntry 4 = none) ∧
    ((s.tank .tankA).mix ≠ some 4 ∧ (s.tank .tankB).mix ≠ some 4) ∧
    ((s.tank .tankA).mix = some 2 ∧ (s.tank .tankA).state = .ready) ∧
    (∃ g ∈ (alarmed.line 2).watched, (alarmed.gauge g).state = .alarm) ∧ (bad.line 2).inputs.collar.degraded = true := by
  decide +kernel

theorem witness_StateEntryDrivesTheOutputs :
    (LineState.seated = .seated ∨ LineState.seated = .armed) ∧
    (LineState.decaying ≠ .seated ∧ LineState.decaying ≠ .armed ∧ LineState.decaying ≠ .injecting ∧
      LineState.decaying ≠ .paused) := by decide +kernel

/-- ARMED with no start clock and with one; INJECTING; PAUSED with its gauge in ALARM, its collar degraded, its agitator empty, and
with none of these. -/
theorem witness_CancelPauseAndResume :
    let s := two .paused
    let alarmed := put 2 (fun l => { l with watched := [4] }) { s with gauges := s.gauges.set 4 { s.gauge 4 with state := .alarm } }
    (s.line 2).key = .remote ∧ s.loop = .closed ∧ (tables.line 1).state = .armed ∧ (tables.line 1).startClock = none ∧
    ((two .armed).line 2).state = .armed ∧ ((two .armed).line 2).startClock ≠ none ∧
    ((two .injecting).line 2).state = .injecting ∧ (s.line 2).state = .paused ∧
    (∃ g ∈ (alarmed.line 2).watched, (alarmed.gauge g).state = .alarm) ∧
    (∀ g ∈ (s.line 2).watched, (s.gauge g).state ≠ .alarm) ∧ (s.line 2).inputs.collar.degraded = false ∧
    ((put 2 (fun l => { l with inputs := { l.inputs with collar := ⟨0, true, 1⟩ } }) s).line 2).inputs.collar.degraded = true ∧
    (s.line 2).draw = some .tankA ∧ 0 < (s.tank .tankA).level ∧
    ((run (.level (some .tankA) 0) s).tank .tankA).level = 0 := by decide +kernel

theorem witness_EndHandsOffTheStage :
    let l := (two .injecting).line 2
    l.key = .remote ∧ l.state = .injecting ∧ ((two .paused).line 2).state = .paused ∧ l.bound = some ⟨k14, 3⟩ ∧
    l.startClock = some 1215 ∧ (two .injecting).results.length < 16 := by decide +kernel

theorem witness_AbortDropsTheStage :
    ((two .seating).line 2).state = .seating ∧ ((two .seating).line 2).bound = some ⟨k14, 3⟩ ∧
    ((two .seating).line 2).key = .remote ∧ ((two .seated).line 2).state = .seated ∧ (tables.line 1).startClock = none ∧
    (tables.line 1).state = .armed ∧ ((two .paused).line 2).startClock = some 1215 ∧ (two .paused).results.length < 16 := by
  decide +kernel

/-- Pc at RELP and one above it; MIX for the draw mix, for another, and for one undefined. -/
theorem witness_ReleaseAndMix :
    let s := fun v => put 2 (fun l => { l with inputs := { l.inputs with collar := ⟨v, false, 0⟩ } }) (two .seated)
    ((s 51).line 2).settings.relp < ((s 51).line 2).inputs.collar.value - ((s 51).line 2).inputs.pcOffset ∧
    ((s 50).line 2).inputs.collar.value - ((s 50).line 2).inputs.pcOffset ≤ ((s 50).line 2).settings.relp ∧
    ((s 50).line 2).key = .remote ∧ ((two .decaying).line 2).state = .decaying ∧ ¬(1 ≤ 0 ∧ 0 ≤ 6) ∧ ¬(1 ≤ 7 ∧ 7 ≤ 6) ∧
    ((two .paused).line 2).state = .paused ∧ (two .paused).mixEntry 6 = none ∧ ((two .paused).line 2).drawMix = some 2 ∧
    (two .paused).mixEntry 2 ≠ none ∧ (two .paused).mixEntry 1 ≠ none := by decide +kernel

theorem witness_CirculateWashAndTare :
    let s := put 3 (standing .primed) yard
    let tare := put 3 (fun l => { l with inputs := { l.inputs with tare := some ⟨0, 0⟩ } }) s
    (s.line 3).key = .remote ∧ s.loop = .closed ∧ (s.line 3).state = .primed ∧ (tare.line 3).inputs.tare ≠ none ∧
    ((run (.circulate 3) s).line 3).circ.running = true ∧ (s.line 3).inputs.tare = none ∧ (s.line 3).circ.running = false ∧
    (s.line 3).draw = some .tankA ∧ (s.tank .tankA).state = .ready ∧ 0 < (s.tank .tankA).level ∧
    ((starved 0).line 7).draw = some .tankB ∧ ((starved 0).tank .tankB).state = .ready ∧ ((starved 0).tank .tankB).level = 0 ∧
    (changing.tank .tankB).state ≠ .ready ∧ (yard.line 3).state = .fouled ∧ (dryTwo.line 2).state = .dry ∧
    (s.line 3).inputs.collar.degraded = false := by decide +kernel

/-- The bounds of STAGE ADD, a full book and a full map; a seated, a done and an absent record; holes with and without records. -/
theorem witness_StageRecordsComeAndGo :
    let fullMap := { yard with holes := List.replicate 16 ⟨k16, Vector.replicate 20 false⟩ }
    (holeTagOk k14 = true ∧ 1 ≤ 20 ∧ 1990 + 10 ≤ 2000 ∧ 300 ≤ 0 + 300 ∧ ([4, 5] : List GaugeId).Nodup) ∧
    ¬(holeTagOk k14 = true ∧ 1 ≤ 0 ∧ 0 ≤ 20) ∧ holeTagOk ['A', 'D', 'D'] = false ∧ ¬([4, 4] : List GaugeId).Nodup ∧ (∃ g ∈ ([3, 12] : List Nat), 12 ≤ g) ∧ yard.record k14 20 = none ∧
    yard.record k14 4 ≠ none ∧ (∃ e ∈ yard.holes, e.hole = k14) ∧ (∀ e ∈ yard.holes, e.hole ≠ ['K']) ∧
    ¬(48 ≤ yard.book.length) ∧ 48 ≤ (List.replicate 48 (stageRec k14 1 0 1 .done)).length ∧
    (¬(∃ e ∈ fullMap.holes, e.hole = k14) ∧ 16 ≤ fullMap.holes.length) ∧
    yard.record k14 3 = some (stageRec k14 3 240 4 (.seatedOn 2)) ∧ yard.record k14 1 = some (stageRec k14 1 140 4 .done) ∧
    (∃ r ∈ yard.book, r.hole = k14) ∧ (∀ r ∈ (seats []).book, r.hole ≠ k14) := by decide +kernel

theorem witness_BookPlantAndGaugeAreRead :
    holeTagOk k14 = true ∧ yard.record k14 20 = none ∧ yard.record k14 1 = some (stageRec k14 1 140 4 .done) ∧ 48 ≤ 48 ∧
    (47 < 48 ∧ yard.book.length ≤ 47) ∧ yard.book[6]? = some (stageRec k16 3 240 5 (.seatedOn 3)) ∧ 6 < 48 ∧
    holeTagOk ['K'] = true ∧ (∀ e ∈ yard.holes, e.hole ≠ ['K']) ∧ (yard.holeEntry k14).isSome = true := by decide +kernel

/-- A result of line `n` with end clock `c`. -/
def resultOf (n : LineId) (c : Clock) : StageResult := ⟨k14, 3, n, 0, c, .volume, 0, 0, 0, 0, 0, [2], 0, 0, false, none⟩

/-- An empty queue, one result with no slot filled, and a full queue with two slots filled with one end clock. -/
theorem witness_TakeRemovesTheOldestResult :
    let one := { yard with results := [resultOf 0 1] }
    let s := put 3 (fun l => { l with pendingResult := some (resultOf 3 2) }) (put 5 (fun l =>
      { l with pendingResult := some (resultOf 5 2) }) { yard with results := List.replicate 16 (resultOf 0 1) })
    yard.results = [] ∧ one.results = resultOf 0 1 :: [] ∧ (∀ n, (one.line n).pendingResult = none) ∧
    s.results = resultOf 0 1 :: List.replicate 15 (resultOf 0 1) ∧ (s.line 3).pendingResult = some (resultOf 3 2) ∧
    (∀ m, m ≠ 3 → m ≠ 5 → (s.line m).pendingResult = none) ∧ (s.line 5).pendingResult = some (resultOf 5 2) ∧
    (resultOf 3 2).endClock = (resultOf 5 2).endClock ∧ (3 : LineId) ≤ 5 := by decide +kernel

theorem witness_LevelAndBatchAct :
    let empty := { yard with tankB := Tank.powerOn }
    3000 < 3001 ∧ ({ Tank.powerOn with state := .receivingTopup } : Tank).state = .receivingTopup ∧ (empty.tank .tankB).state ≠ .ready ∧ (empty.tank .tankB).state ≠ .receivingTopup ∧
    (yard.tank .tankB).state = .ready ∧ 0 < min (1 * 1000) ((yard.tank .tankB).cap * 1000) ∧
    min (0 * 1000) ((yard.tank .tankB).cap * 1000) = 0 ∧ (∀ n, (yard.line n).draw ≠ some .tankB) ∧
    (∃ n, (tables.line n).draw = some .tankA) ∧ (tables.line 3).draw = some .tankA ∧ (tables.line 3).state = .injecting ∧
    0 < (tables.tank .tankA).level ∧ ((starved 0).tank .tankB).level = 0 ∧ ((starved 0).line 7).draw = some .tankB ∧
    ¬(1 ≤ 7 ∧ 7 ≤ 6) ∧ yard.mixEntry 6 = none ∧ yard.mixEntry 1 ≠ none ∧ yard.mixEntry 4 ≠ none ∧
    ((yard.tank .tankB).mix = some 1 ∧ (yard.tank .tankB).mix ≠ some 4) ∧
    8 ≤ (List.replicate 8 (⟨.any, 4, .change, .order⟩ : Request)).length ∧
    (∃ r ∈ [(⟨.one .tankB, 1, .topup, .auto⟩ : Request)], r.tank = .one .tankB ∧ r.mix = 1) ∧ yard.batchQueue.length < 8 := by
  decide +kernel

theorem witness_UpliftClearEndsAnAlarm :
    let q := (heaved .alarm 210).gauge 4
    (q.state = .alarm ∧ q.heave - q.baseline < (q.warn : Int) - q.hyst ∧ q.faults = 0) ∧
    (∃ n, (4 : GaugeId) ∈ ((heaved .alarm 210).line n).watched) ∧ (yard.gauge 4).state ≠ .alarm ∧
    (∀ n, (4 : GaugeId) ∉ (yard.line n).watched) ∧ 12 ≤ 12 := by decide +kernel

theorem witness_LoopAndKeysAct :
    let s := run .siteStopOpen (put 2 (fun l => { l with state := .washing }) yard)
    let k := run (.keyToLocal 3) (put 3 (fun l => { l with state := .priming, draw := some .tankA }) yard)
    yard.loop = .closed ∧ s.loop = .opened ∧ (tables.line 3).state = .injecting ∧ (tables.line 1).state = .armed ∧
    ((tables.line 0).state ≠ .injecting ∧ (tables.line 0).state ≠ .armed) ∧ (s.line 2).state = .washing ∧
    (s.line 2).key = .remote ∧ (k.line 3).state = .priming ∧ (k.line 3).key = .locl ∧ (k.line 3).draw = some .tankA ∧
    (tables.line 3).key = .remote := by decide +kernel

theorem witness_SamplesUpdateTheInputs : (worked.line 3).inputs.tare = none := by decide +kernel

/-- Line 3 PRIMED with `k` samples of a tare run taken. -/
def tareAt (k : Nat) : State :=
  put 3 (fun l => { standing .primed l with inputs := { l.inputs with tare := some ⟨k, 3330⟩ } }) yard

theorem witness_SamplesUpdateTheInputs_tare :
    ((tareAt 18).line 3).inputs.tare = some ⟨18, 3330⟩ ∧ ((tareAt 18).line 3).state = .primed ∧ (tareAt 18).AgeCalm 3 ∧ 18 < 19 ∧
    (3600 ≤ 20800 ∧ 20800 ≤ 20800) ∧ ¬(3600 ≤ 3599 ∧ 3599 ≤ 20800) := by
  refine ⟨by decide +kernel, by decide +kernel, ageCalm_of (by decide +kernel), by decide, by decide, by decide⟩

/-- Both inputs of a FOULED line at their thirtieth bad sample; the collar's of an ARMED one. -/
theorem witness_SensorsAreRaised :
    let bad := fun l : Line => { l with inputs := { l.inputs with collar := ⟨5, true, 29⟩, packer := ⟨9, true, 29⟩ } }
    let s := put 2 bad yard
    let t := put 2 bad (two .armed)
    ((0 < 3600 ∨ 20800 < 0) ∧ (s.line 2).inputs.collar.faults = 29) ∧ (s.line 2).inputs.packer.faults = 29 ∧
    (20800 < 20801 ∧ ¬(20800 < 20800)) ∧ (s.line 2).state = .fouled ∧ (s.line 2).inputs.tare = none ∧ ageCalm s 2 = true ∧
    s.Unqueued 2 ∧ (t.line 2).state = .armed ∧ t.responses.sensor = .pause ∧ ageCalm t 2 = true ∧
    t.SeatCalm 2 ⟨0, 8120, 0, 0⟩ ∧ (t.line 2).pendingMix = none ∧ (t.line 2).inputs.tare = none := by
  refine ⟨by decide +kernel, by decide +kernel, by decide, by decide +kernel, by decide +kernel, by decide +kernel,
    unqueued_of (by decide +kernel) (by decide +kernel), by decide +kernel, by decide +kernel, by decide +kernel,
    ⟨by decide +kernel, by decide +kernel⟩, by decide +kernel, by decide +kernel⟩

/-- The ARMED line of the witness above under GROUP and ALL, line 3 INJECTING beside it and line 4 on the other agitator; a started
stage PAUSED under END. -/
theorem witness_SensorsAreRaised_actions :
    let bad := fun l : Line => { l with inputs := { l.inputs with collar := ⟨5, true, 29⟩ } }
    let s := put 2 bad (put 3 (staged .injecting k16 3) (put 4 (fun l => { staged .injecting k14 4 l with draw := some .tankB })
      (two .armed)))
    let p := put 2 bad { two .paused with responses := { yard.responses with sensor := .endStage } }
    (∀ a, ({ s with responses := { s.responses with sensor := a } } : State).responses.sensor = a) ∧
    ((s.line 2).draw = some .tankA ∧ (s.line 3).state = .injecting ∧ (s.line 3).draw = (s.line 2).draw ∧
      (s.line 4).draw ≠ (s.line 2).draw ∧ (s.line 2).inputs.packer.faults ≠ 29) ∧ ageCalm s 2 = true ∧ s.SeatCalm 2 ⟨0, 8120, 0, 0⟩ ∧
    ((p.line 2).state = .paused ∧ (p.line 2).bound = some ⟨k14, 3⟩ ∧ (p.line 2).startClock = some 1215 ∧
      p.responses.sensor = .endStage ∧ p.results.length < 16 ∧ (p.line 2).inputs.tare = none) ∧ ageCalm p 2 = true ∧
    p.SeatCalm 2 ⟨0, 8120, 0, 0⟩ ∧ p.Unqueued 2 := by
  refine ⟨fun _ => rfl, by decide +kernel, by decide +kernel, ⟨by decide +kernel, by decide +kernel⟩, by decide +kernel,
    by decide +kernel, ⟨by decide +kernel, by decide +kernel⟩, unqueued_of (by decide +kernel) (by decide +kernel)⟩

/-- An INJECTING line whose collar input comes to its thirtieth bad sample, its agitator one millilitre above the sample's draw, with
line 3 INJECTING from the same agitator. -/
theorem witness_SensorsAreRaised_injecting :
    let bad := fun l : Line => { l with inputs := { l.inputs with collar := ⟨5, true, 29⟩ } }
    let u := put 2 bad (put 3 (staged .injecting k16 3) (two .injecting))
    let s : State := { u with tankA := { u.tankA with level := 11 } }
    let x : Sample := ⟨0, 8120, 1, 0⟩
    ∃ tb, s.stageTables (s.line 2) = some tb ∧
      (let w := (s.measure 2 x).compute tb (s.pcOf 2 x) x.pulses ((s.measure 2 x).line 2)
       w.ended = none ∧ w.added = 10 ∧ w.thicken = none) ∧ (0 + 1) / 10 < tb.drawn.settime * 60 ∧
      ((s.line 2).state = .injecting ∧ (s.line 2).circ.age = some 0 ∧ (s.line 2).draw = some .tankA ∧ (s.tank .tankA).level = 11 ∧
        (s.line 2).latch.packerCount < 9 ∧ (s.line 2).pendingMix = none ∧ (s.line 2).inputs.tare = none) ∧ ageCalm s 2 = true ∧
      ((s.line 3).state = .injecting ∧ (s.line 3).draw = (s.line 2).draw ∧ (s.line 3).pendingMix = none) ∧
      (s.responses.overp = .report ∧ s.responses.drop = .pause ∧ s.responses.surge = .report ∧ s.responses.sensor = .pause) ∧
      ((s.line 2).bound = some ⟨k14, 3⟩ ∧ (s.line 2).startClock = some 1215) ∧ s.Unqueued 2 := by
  refine ⟨_, rfl, by decide +kernel, by decide +kernel, by decide +kernel, by decide +kernel, by decide +kernel, by decide +kernel,
    by decide +kernel, unqueued_of (by decide +kernel) (by decide +kernel)⟩

/-- Line 3 on the last sample of a tare run. -/
def taring : State := put 3 (fun l => { standing .primed l with inputs := { l.inputs with tare := some ⟨19, 3517⟩ } }) yard

theorem witness_TareRunsComplete :
    (taring.line 3).state = .primed ∧ (taring.line 3).inputs.tare = some ⟨19, 3517⟩ ∧
    (taring.line 3).sensorsRaised ⟨4300, 8120, 0, 0⟩ = 0 ∧ taring.AgeCalm 3 ∧ taring.Unqueued 3 ∧ 3600 ≤ 3600 ∧ 20800 ≤ 20800 ∧
    (3517 + 187) / 20 ≤ 300 ∧ ¬(5937 + 312) / 20 ≤ 300 := by
  refine ⟨by decide +kernel, by decide +kernel, by decide +kernel, ageCalm_of (by decide +kernel),
    unqueued_of (by decide +kernel) (by decide +kernel), by decide, by decide, by decide, by decide⟩

/-- The nineteenth sample, a bad sample, and the sample of a run on which the line's age reaches 5400 s. -/
theorem witness_TareRunsComplete_before :
    let old := put 3 (fun l => { l with circ := ⟨some 53999, false, 0, false⟩ }) (tareAt 18)
    ((tareAt 18).line 3).inputs.tare = some ⟨18, 3330⟩ ∧ ((tareAt 18).line 3).sensorsRaised ⟨3599, 8120, 0, 0⟩ = 0 ∧
    (tareAt 18).AgeCalm 3 ∧ (tareAt 18).Unqueued 3 ∧ ¬(3600 ≤ 3599 ∧ 3599 ≤ 20800) ∧
    ((old.line 3).inputs.tare = some ⟨18, 3330⟩ ∧ (old.line 3).state = .primed ∧ (old.line 3).key = .remote ∧
      (old.line 3).circ.running = false ∧ (old.line 3).circ.age = some 53999 ∧ old.ageLimit (old.line 3) = some 5400 ∧
      5400 = min 144000 (53999 + 1) / 10 ∧ (old.line 3).sensorsRaised quiet = 0) ∧ old.Unqueued 3 := by
  refine ⟨by decide +kernel, by decide +kernel, ageCalm_of (by decide +kernel),
    unqueued_of (by decide +kernel) (by decide +kernel), by decide, by decide +kernel,
    unqueued_of (by decide +kernel) (by decide +kernel)⟩

/-- PRIMING at its last second; SEATING at its twentieth good sample, and at the end of its minute. -/
theorem witness_PrimingAndSeatingEnd :
    let p := put 2 (fun l => { l with state := .priming, draw := some .tankA, stateTicks := 1199, circ := .powerOn }) yard
    let c := put 2 (fun l => { l with condCount := 19 }) (two .seating)
    let f := put 2 (fun l => { l with stateTicks := 599 }) (two .seating)
    let short : Sample := ⟨4000, 7999, 0, 0⟩
    let full : Sample := ⟨4000, 8000, 0, 0⟩
    p.Calm 2 quiet ∧ c.Calm 2 full ∧ f.Calm 2 short ∧
    ((p.line 2).state = .priming ∧ (p.line 2).circ.age = none ∧ p.loop = .closed ∧ (p.line 2).key = .remote ∧
      (p.line 2).draw = some .tankA ∧ 0 < (p.tank .tankA).level ∧ (p.line 2).settings.primet = p.timerAfter 2 ∧
      0 < p.plant.circi) ∧
    ((c.line 2).state = .seating ∧ (c.line 2).condCount = 19 ∧ (c.line 2).settings.seatp = c.packerOf 2 full ∧
      0 < (c.line 2).settings.comm ∧ c.boundRecord (c.line 2) = some (stageRec k14 3 240 4 (.seatedOn 2))) ∧
    ((f.line 2).state = .seating ∧ f.packerOf 2 short < (f.line 2).settings.seatp ∧ f.timerAfter 2 = 60 ∧
      (f.line 2).bound = some ⟨k14, 3⟩ ∧ (f.line 2).endReason = none) := by
  refine ⟨calm_of (by decide +kernel) (by decide +kernel) (by decide +kernel), calm_of (by decide +kernel) (by decide +kernel)
    (by decide +kernel), calm_of (by decide +kernel) (by decide +kernel) (by decide +kernel), by decide +kernel,
    by decide +kernel, by decide +kernel⟩

theorem witness_PrimingAndSeatingEnd_mix :
    (∀ k m, (yard.tank .tankA).mix = some k → yard.mixEntry k = some m → 0 < m.settime) := by
  intro k m hk hm; cases hk; cases hm; decide

/-- SHUT-IN at its end; DECAYING at RELP with and without the release flag, its end reason REFUSAL or FOULED; five minutes up. -/
theorem witness_ShutInAndDecayEnd :
    let i := put 2 (fun l => { l with stateTicks := 2999 }) (two .shutIn)
    let d := fun flag reason => put 2 (fun l => { l with condCount := 9, releaseFlag := flag, endReason := some reason })
      (two .decaying)
    let w := put 2 (fun l => { l with stateTicks := 2999 }) (two .decaying)
    let low : Sample := ⟨4080, 8120, 0, 0⟩
    i.Calm 2 quiet ∧ (d true .refusal).Calm 2 low ∧ (d false .refusal).Calm 2 low ∧ w.Calm 2 quiet ∧
    ((i.line 2).state = .shutIn ∧ (i.line 2).settings.shutin = i.timerAfter 2) ∧
    (((d true .refusal).line 2).state = .decaying ∧ ((d true .refusal).line 2).condCount = 9 ∧
      (d true .refusal).pcOf 2 low = ((d true .refusal).line 2).settings.relp ∧
      ((d true .refusal).line 2).releaseFlag = true) ∧
    (((d false .fouled).line 2).releaseFlag = false ∧ ((d false .fouled).line 2).bound = some ⟨k14, 3⟩ ∧
      ((d false .fouled).line 2).endReason = some .fouled ∧ ((d false .refusal).line 2).endReason = some .refusal ∧
      ((d false .refusal).line 2).bound = some ⟨k14, 3⟩ ∧ (yard.holes.map (·.hole)).contains k14 = true ∧ 1 ≤ 3) ∧
    (d false .refusal).SeatCalm 2 low ∧
    ((w.line 2).state = .decaying ∧ (w.line 2).condCount < 9 ∧ w.timerAfter 2 = 300 ∧ (w.line 2).slowMark = false) := by
  refine ⟨calm_of (by decide +kernel) (by decide +kernel) (by decide +kernel), calm_of (by decide +kernel) (by decide +kernel)
    (by decide +kernel), calm_of (by decide +kernel) (by decide +kernel) (by decide +kernel), calm_of (by decide +kernel)
    (by decide +kernel) (by decide +kernel), by decide +kernel, by decide +kernel, by decide +kernel,
    ⟨by decide +kernel, by decide +kernel⟩, by decide +kernel⟩

/-- RELEASING at 100 kPa, bound and watching gauge 4 alone, and unbound; a minute up at 101 kPa; WASHING at its end. -/
theorem witness_ReleaseAndWashEnd :
    let r := put 2 (fun l => { l with condCount := 9, watched := [4] })
      { two .releasing with gauges := yard.gauges.set 4 { yard.gauge 4 with state := .watch } }
    let u := put 2 (fun l => { l with condCount := 9, bound := none }) (two .releasing)
    let f := put 2 (fun l => { l with stateTicks := 599 }) (two .releasing)
    let w := put 3 (fun l => { l with state := .washing, stateTicks := 1799 }) yard
    let low : Sample := ⟨4000, 4100, 0, 0⟩
    let high : Sample := ⟨4000, 4101, 0, 0⟩
    r.Calm 2 low ∧ u.Calm 2 low ∧ f.Calm 2 high ∧ w.Calm 3 quiet ∧
    ((r.line 2).state = .releasing ∧ (r.line 2).condCount = 9 ∧ r.packerOf 2 low = 100 ∧ (r.line 2).bound = some ⟨k14, 3⟩ ∧
      (∀ m, m ≠ 2 → (4 : GaugeId) ∉ (r.line m).watched) ∧ (r.gauge 4).state = .watch ∧ (5 : GaugeId) ∉ (r.line 2).watched) ∧
    (u.line 2).bound = none ∧
    ((f.line 2).state = .releasing ∧ f.packerOf 2 high = 101 ∧ f.timerAfter 2 = 60 ∧ (f.line 2).slowMark = false) ∧
    ((w.line 3).state = .washing ∧ w.loop = .closed ∧ (w.line 3).key = .remote ∧ (w.line 3).settings.washt = w.timerAfter 3) := by
  refine ⟨calm_of (by decide +kernel) (by decide +kernel) (by decide +kernel), calm_of (by decide +kernel) (by decide +kernel)
    (by decide +kernel), calm_of (by decide +kernel) (by decide +kernel) (by decide +kernel), calm_of (by decide +kernel)
    (by decide +kernel) (by decide +kernel), by decide +kernel, by decide +kernel, by decide +kernel, by decide +kernel⟩

/-- The tables of the worked case. -/
def workedTables : StageTables :=
  ⟨stageRec k16 3 240 5 (.seatedOn 3), envelope1, ⟨0, 3⟩, ⟨['B'], 100, 1600, 30, 90⟩, ⟨['B'], 100, 1600, 30, 90⟩⟩

theorem witness_InjectionFigures :
    (worked.line 3).state = .injecting ∧ (worked.line 3).inputs.tare = none ∧
    worked.stageTables (worked.line 3) = some workedTables ∧ workedTables.record.top < workedTables.record.bottom := by
  decide +kernel

/-- The front arrives with the worked sample's 14 mL, which is all that is left in the agitator, from which line 2 injects too; the
refusal condition holds at its bounds; a gauge in WARN freezes the dwell. -/
theorem witness_InjectionFigures_bounds :
    let s := put 2 (staged .injecting k14 3) (put 3 (fun l => { workedLine l with front := 14, drawMix := some 3 })
      { yard with tankA := { yard.tankA with level := 14 } })
    let tb : StageTables := { workedTables with drawn := ⟨['C'], 80, 1680, 45, 60⟩ }
    let w : State := { s with gauges := s.gauges.set 5 { s.gauge 5 with state := .warn } }
    let e : Envelope := { envelope1 with rflow := 85, band := 41 }
    let f := ((run (.lineSampleEvent 3 workedSample) { s with tankA := yard.tankA, envelopes := s.envelopes.set 1 (some e) }).line 3).fig
    (s.stageTables (s.line 3) = some tb ∧ (s.line 3).inputs.tare = none ∧ 0 < (s.line 3).front ∧
      (s.line 3).front = workedSample.pulses * (s.line 3).settings.pulse) ∧
    ((s.line 3).fig.mixList.getLast? ≠ some 3 ∧ (s.line 3).fig.mixList.length < 8) ∧
    ((s.line 3).draw = some .tankA ∧ (s.tank .tankA).level = 14 ∧ (s.line 2).draw = some .tankA ∧
      (s.line 2).state = .injecting ∧ (s.line 2).circ.running = false ∧ s.plantHold.entries.length < 4) ∧ s.Unqueued 3 ∧
    ((run (.lineSampleEvent 3 workedSample) s).line 3).draw = (s.line 3).draw ∧
    (∃ g ∈ (w.line 3).watched, (w.gauge g).state = .warn) ∧ ((f.lastTarget : Int) - e.band = f.lastPe ∧ f.refusalCount = 1) := by
  refine ⟨by decide +kernel, by decide +kernel, by decide +kernel, unqueued_of (by decide +kernel) (by decide +kernel),
    by decide +kernel, by decide +kernel, by decide +kernel⟩

/-- A pending mix that the other agitator holds is switched over to on the sample. -/
theorem witness_InjectionFigures_switch :
    let s := put 3 (fun l => { workedLine l with pendingMix := some 1 }) yard
    s.stageTables (s.line 3) = some workedTables ∧
    ((run (.lineSampleEvent 3 workedSample) s).line 3).draw ≠ (s.line 3).draw := by decide +kernel

/-- The line is still INJECTING after the worked sample; it trips on that of 3.12.4; its gauge may be in WARN. -/
theorem witness_PumpRateFollowsTheLaw :
    worked.loop = .closed ∧ worked.Unqueued 3 ∧ (worked.line 3).circ.running = false ∧
    ((run (.lineSampleEvent 3 workedSample) worked).line 3).state = .injecting ∧
    (¬∃ g ∈ (worked.line 3).watched, (worked.gauge g).state = .warn ∨ (worked.gauge g).state = .fault) ∧
    ((run (.lineSampleEvent 3 workedSample) worked).line 3).fig.lastPe ≤ 3000 + 3000 / 10 := by
  refine ⟨by decide +kernel, unqueued_of (by decide +kernel) (by decide +kernel), by decide +kernel, by decide +kernel,
    by decide +kernel, by decide +kernel⟩

theorem witness_PumpRateFollowsTheLaw_bounds :
    let w := { worked with gauges := worked.gauges.set 5 { worked.gauge 5 with state := .warn } }
    let v := put 3 (fun l => { l with fig := { l.fig with volume := 200000 } }) worked
    (∃ g ∈ (w.line 3).watched, (w.gauge g).state = .warn ∨ (w.gauge g).state = .fault) ∧
    ((run (.lineSampleEvent 3 workedSample) w).line 3).state = .injecting ∧
    ((run (.lineSampleEvent 3 ⟨9000, 8120, 0, 0⟩) v).line 3).state = .injecting ∧
    3300 < ((run (.lineSampleEvent 3 ⟨9000, 8120, 0, 0⟩) v).line 3).fig.lastPe := by decide +kernel

/-- A first tripped sample into a hold with room, a second one, and a rate 50 above the oldest entry with RATE in HOLDON; a line
with no HOLDON. -/
theorem witness_PumpRateFollowsTheLaw_record :
    let v := put 3 (fun l => { l with fig := { l.fig with volume := 200000 } }) worked
    let r := fun h : HoldOn => put 3 (fun l => { l with
      settings := { l.settings with holdon := h }
      latch := { l.latch with reference := some 1771 }
      fig := { l.fig with rateRecord := [318, 342, 344, 346, 348, 350, 352, 354, 355, 356] } }) worked
    ((v.line 3).fig.tripMark = false ∧ (v.line 3).sensorsRaised ⟨9000, 8120, 0, 0⟩ = 0 ∧ v.lineHolds[3].entries.length < 2) ∧
    ((put 3 (fun l => { l with fig := { l.fig with tripMark := true } }) v).line 3).fig.tripMark = true ∧
    (((r ⟨true, true, true⟩).line 3).fig.rateRecord.headD 0 + 50 =
        ((run (.lineSampleEvent 3 workedSample) (r ⟨true, true, true⟩)).line 3).fig.pumpRate ∧
      ((r ⟨true, true, true⟩).line 3).latch.reference = some 1771 ∧
      ((run (.lineSampleEvent 3 workedSample) (r ⟨true, true, true⟩)).line 3).state = .injecting) ∧
    ((r ⟨false, false, false⟩).line 3).settings.holdon = ⟨false, false, false⟩ := by decide +kernel

/-- The step of 4.10 on sample 3000, and the refusal of 600 s on sample 6000. -/
theorem witness_StepsAndRefusals :
    let p := put 3 (fun l => { workedLine l with fig := { (workedLine l).fig with pointIndex := 0, dwellCount := 2999 } }) yard
    let r := put 3 (fun l => { workedLine l with
      inputs := { l.inputs with tareOffset := 185, window := List.replicate 10 0 }
      fig := { (workedLine l).fig with volume := 400000, refusalCount := 5999 } }) yard
    let x : Sample := ⟨6504, 8120, 0, 0⟩
    let figures := ((r.measure 3 x).computeFigures workedTables (r.pcOf 3 x) x.pulses ((r.measure 3 x).line 3)).fig
    (∀ g ∈ (p.line 3).watched, (p.gauge g).state ≠ .warn ∧ (p.gauge g).state ≠ .alarm ∧ (p.gauge g).state ≠ .fault) ∧
    (p.stageTables (p.line 3) = some workedTables ∧ (p.line 3).fig.pointIndex + 1 < workedTables.window.count) ∧
    (p.pointAt workedTables.window 0).dwell = min 36000 ((p.line 3).fig.dwellCount + 1) / 10 ∧
    r.stageTables (r.line 3) = some workedTables ∧
    ((r.line 3).bound = some ⟨k16, 3⟩ ∧ (r.line 3).startClock = some 1215 ∧ r.Calm 3 x ∧ r.Unqueued 3) ∧
    ((r.line 3).circ.age = some 0 ∧ (0 + 1) / 10 < workedTables.drawn.settime * 60) ∧
    figures.lastTake < workedTables.envelope.vmax * 10 ∧
    figures.lastIntensity < workedTables.envelope.ginmax - workedTables.envelope.ginmax / 50 ∧
    (((r.measure 3 x).line 3).inputs.flow ≤ workedTables.envelope.rflow ∧
      (figures.lastTarget : Int) - workedTables.envelope.band ≤ figures.lastPe ∧
      workedTables.envelope.rtime = min 36000 ((r.line 3).fig.refusalCount + 1) / 10) := by
  refine ⟨by decide +kernel, by decide +kernel, by decide +kernel, by decide +kernel, ⟨by decide +kernel, by decide +kernel,
    calm_of (by decide +kernel) (by decide +kernel) (by decide +kernel), unqueued_of (by decide +kernel) (by decide +kernel)⟩,
    by decide +kernel, by decide +kernel, by decide +kernel, by decide +kernel⟩

/-- Stage ends by VOLUME at 2000 and by INTENSITY at 1470, and thickening at 500 with Pe below six tenths of the target (3.8, 3.10). -/
theorem witness_StepsAndRefusals_ends :
    let stage := fun volume mixVolume => put 3 (fun l => { workedLine l with
      inputs := { l.inputs with tareOffset := 185, window := List.replicate 10 0 }
      fig := { (workedLine l).fig with volume := volume, mixVolume := mixVolume, refusalCount := 0 } }) yard
    let worked := fun (s : State) x => (s.measure 3 x).computeFigures workedTables (s.pcOf 3 x) x.pulses ((s.measure 3 x).line 3)
    let v := stage 1000000 0
    let i := stage 560000 0
    let t := stage 452000 300000
    let low : Sample := ⟨5191, 8120, 0, 0⟩
    let mid : Sample := ⟨5743, 8120, 0, 0⟩
    (v.stageTables (v.line 3) = some workedTables ∧ (worked v low).fig.lastTake = workedTables.envelope.vmax * 10) ∧
    ((worked i mid).fig.lastTake < workedTables.envelope.vmax * 10 ∧
      workedTables.envelope.ginmax - workedTables.envelope.ginmax / 50 ≤ (worked i mid).fig.lastIntensity) ∧
    ((worked t low).fig.lastTake < 2000 ∧ (worked t low).fig.lastIntensity < 1470 ∧ (worked t low).fig.refusalCount / 10 < 600 ∧
      (t.line 3).pendingMix = none ∧ (worked t low).columnMix = some 2 ∧ (worked t low).drawMix = some 2 ∧
      t.mixEntry 3 ≠ none ∧ workedTables.envelope.tvol * 10 ≤ (worked t low).fig.mixVolume / (50 * 10) ∧
      (worked t low).fig.lastPe * 100 < workedTables.envelope.tpct * (worked t low).fig.lastTarget) ∧
    (v.Calm 3 low ∧ i.Calm 3 mid) ∧ (v.Unqueued 3 ∧ t.Unqueued 3) := by
  refine ⟨by decide +kernel, by decide +kernel, by decide +kernel, ⟨calm_of (by decide +kernel) (by decide +kernel)
    (by decide +kernel), calm_of (by decide +kernel) (by decide +kernel) (by decide +kernel)⟩, unqueued_of (by decide +kernel)
    (by decide +kernel), unqueued_of (by decide +kernel) (by decide +kernel)⟩

/-- 8.3.1: the tenth tested sample and the twentieth of a hold-off; the tenth sample of a low packer. -/
theorem witness_ReferencesAndPackerLow :
    let x : Sample := ⟨6855, 8120, 0, 0⟩
    let p := put 2 (fun l => { l with latch := { l.latch with packerCount := 9 } }) (two .seated)
    let y : Sample := ⟨4000, 7499, 0, 0⟩
    let c := fun s : State => (s.measure 3 x).compute workedTables (s.pcOf 3 x) x.pulses ((s.measure 3 x).line 3)
    let selected := fun s : State => ((s.line 3).settings.holdon.step = true ∧ 2 + 1 < workedTables.window.count) ∨
      ((s.line 3).settings.holdon.rate = true ∧ (c s).ended = none)
    (((dropping 9 0).line 3).fig.pointIndex = 2 ∧ ((dropping 4 1).line 3).fig.pointIndex = 2) ∧
    ((dropping 9 0).stageTables ((dropping 9 0).line 3) = some workedTables ∧
      ((dropping 9 0).line 3).state = .injecting ∧ ((dropping 9 0).line 3).inputs.tare = none ∧
      ((dropping 9 0).line 3).latch.reference ≠ none ∧ ¬selected (dropping 9 0) ∧ ((dropping 9 0).line 3).latch.holdOff = 0 ∧
      ((dropping 9 0).line 3).latch.period = 9) ∧
    (((dropping 4 1).line 3).latch.holdOff = 1 ∧ ¬selected (dropping 4 1)) ∧
    ((p.line 2).state = .seated ∧ (p.line 2).settings.checks.packer = true ∧ (p.line 2).latch.packerCount = 9 ∧
      (p.line 2).latch.packerMark = false ∧
      (p.packerOf 2 y : Int) = (p.line 2).settings.seatp - (p.line 2).settings.pmargin - 1 ∧
      p.pcOf 2 y < (p.line 2).seatRef + (p.line 2).settings.comm) ∧
    (dropping 9 0).Unqueued 3 ∧ p.Unqueued 2 ∧ p.Calm 2 y := by
  refine ⟨by decide +kernel, by decide +kernel, by decide +kernel, by decide +kernel, unqueued_of (by decide +kernel) (by decide +kernel),
    unqueued_of (by decide +kernel) (by decide +kernel), calm_of (by decide +kernel) (by decide +kernel) (by decide +kernel)⟩

/-- 8.3.1: DROP at 313 kPa below the reference and SURGE at 500 above it, on a calm sample that neither ends the stage nor trips. -/
theorem witness_ReferencesAndPackerLow_pressures :
    let c := fun (s : State) x => (s.measure 3 x).compute workedTables (s.pcOf 3 x) x.pulses ((s.measure 3 x).line 3)
    let x : Sample := ⟨6354, 8120, 0, 0⟩
    let d := dropping 6 0
    let g := put 3 (fun l => { l with latch := { l.latch with reference := some 1202 } }) d
    (d.stageTables (d.line 3) = some workedTables ∧ (c d x).ended = none ∧ (c d x).tripped = false ∧ (c d x).thicken = none ∧
      (c d x).added < (d.tank .tankA).level ∧ (d.line 3).draw = some .tankA ∧ (d.line 3).circ.age = some 0) ∧
    (d.line 3).latch.packerCount < 9 ∧
    ((d.line 3).latch.reference = some 2015 ∧ (d.line 3).latch.holdOff = 0 ∧ (c d x).pe + (d.line 3).settings.drop ≤ 2015 ∧
      (d.line 3).settings.dfloor ≤ 2015 ∧ (d.line 3).settings.checks.drop = true ∧ (d.line 3).latch.dropMark = false ∧
      (d.line 3).latch.period < 9) ∧
    ((g.line 3).latch.reference = some 1202 ∧ 1202 + (g.line 3).settings.surge = (c g x).pe ∧
      (g.line 3).settings.checks.surge = true ∧ (g.line 3).latch.surgeMark = false) ∧
    ((d.line 3).fig.pointIndex + 1 = workedTables.window.count ∧ (d.line 3).settings.holdon.rate = false) ∧
    d.Unqueued 3 ∧ d.Calm 3 x := by
  refine ⟨by decide +kernel, by decide +kernel, by decide +kernel, by decide +kernel, by decide +kernel,
    unqueued_of (by decide +kernel) (by decide +kernel), calm_of (by decide +kernel) (by decide +kernel) (by decide +kernel)⟩

/-- 3.12.4 with the reference 1 kPa off either test: a first tripped sample, OVER in CHECKS or not. -/
theorem witness_ReferencesAndPackerLow_trip :
    let s := fun listed => put 3 (fun l => { workedLine l with
      settings := { (workedLine l).settings with checks := { (workedLine l).settings.checks with overp := listed } }
      inputs := { l.inputs with tareOffset := 185, window := List.replicate 10 0 }
      latch := { l.latch with reference := some 2821 }
      fig := { (workedLine l).fig with volume := 200000 } }) yard
    let x : Sample := ⟨8943, 8120, 0, 0⟩
    let c := ((s true).measure 3 x).compute workedTables ((s true).pcOf 3 x) x.pulses (((s true).measure 3 x).line 3)
    ((s true).stageTables ((s true).line 3) = some workedTables ∧ ((s true).line 3).state = .injecting ∧
      ((s true).line 3).latch.packerCount < 9 ∧ c.ended = none ∧ ((s true).line 3).fig.tripMark = false ∧ c.pe = 3320 ∧
      c.added < ((s true).tank .tankA).level ∧ ((s true).line 3).draw = some .tankA ∧ c.thicken = none ∧
      ((s true).line 3).circ.age = some 0) ∧
    (((s true).line 3).latch.reference = some 2821 ∧ ((s true).line 3).latch.holdOff = 0 ∧
      c.pe + 1 = 2821 + ((s true).line 3).settings.surge ∧ 2821 < c.pe + ((s true).line 3).settings.drop) ∧
    (((s true).line 3).settings.checks.overp = true ∧ ((s false).line 3).settings.checks.overp = false) ∧
    (s true).Unqueued 3 ∧ (s true).Calm 3 x := by
  refine ⟨by decide +kernel, by decide +kernel, by decide +kernel, unqueued_of (by decide +kernel) (by decide +kernel),
    calm_of (by decide +kernel) (by decide +kernel) (by decide +kernel)⟩

/-- 8.4: line 6 SEATED at its threshold of 260 kPa while lines 2 and 3 inject from A and line 4 is ARMED on B; GROUP for a line
that draws from A. -/
theorem witness_ReferencesAndPackerLow_lines :
    let s := put 6 (fun l => { staged .seated k14 4 l with seatRef := 60 })
      (put 4 (fun l => { staged .armed k14 4 l with draw := some .tankB }) (put 3 (staged .injecting k16 3) (two .injecting)))
    let x : Sample := ⟨4416, 8120, 0, 0⟩
    ((s.line 6).state = .seated ∧ (s.line 6).latch.packerCount < 9 ∧ (s.line 6).settings.checks.comm = true ∧
      (s.line 6).latch.commMark = false ∧ (s.line 6).pendingMix = none ∧ (s.line 6).seatRef + (s.line 6).settings.comm = s.pcOf 6 x ∧
      (s.line 3).state = .injecting ∧ (s.line 3).bound = some ⟨k16, 3⟩ ∧ (s.line 3).startClock = some 1215) ∧
    ((s.line 6).draw = some .tankA ∧ (s.line 2).draw = (s.line 6).draw ∧ (s.line 4).draw ≠ (s.line 6).draw ∧
      (s.line 4).state = .armed) ∧ s.Calm 6 x ∧ s.QueuesArmed ∧ s.Unqueued 6 := by
  refine ⟨by decide +kernel, by decide +kernel, calm_of (by decide +kernel) (by decide +kernel) (by decide +kernel),
    fun t => by cases t <;> decide +kernel, unqueued_of (by decide +kernel) (by decide +kernel)⟩

/-- 9.4.2: the sample on which line 7's age reaches its limit of 2700 s. -/
theorem witness_OldGroutFoulsTheLine :
    let s := starved 26999
    (s.line 7).state = .paused ∧ (s.line 7).key = .remote ∧ (s.line 7).sensorsRaised quiet = 0 ∧
    (s.line 7).inputs.tare = none ∧ (s.line 7).circ.running = false ∧ s.SeatCalm 7 quiet ∧ (s.line 7).circ.age = some 26999 ∧
    s.ageLimit (s.line 7) = some 2700 ∧ 2700 = min 144000 (26999 + 1) / 10 ∧ (s.line 7).bound = some ⟨k16, 2⟩ ∧
    (s.line 7).endReason = none ∧ (s.line 7).startClock = some 1215 ∧ s.results.length < 16 := by
  refine ⟨by decide +kernel, by decide +kernel, by decide +kernel, by decide +kernel, by decide +kernel,
    ⟨by decide +kernel, by decide +kernel⟩, by decide +kernel, by decide +kernel, by decide, by decide +kernel, by decide +kernel,
    by decide +kernel, by decide +kernel⟩

/-- Line 2, of mix 2 and 5400 s, at its limit in SEATING, SHUT-IN, DECAYING and RELEASING, with a reason fixed and without, and in
INJECTING with no flow. -/
theorem witness_OldGroutFoulsTheLine_timed :
    let old := fun st r => put 2 (fun l => { l with circ := ⟨some 53999, false, 0, false⟩, endReason := r }) (two st)
    let x : Sample := ⟨4000, 4200, 0, 0⟩
    let y : Sample := ⟨4100, 4200, 0, 0⟩
    let i := put 3 (fun l => { workedLine l with circ := ⟨some 53999, false, 0, false⟩ })
      { yard with responses := { yard.responses with drop := .report } }
    (((old .seating none).line 2).state = .seating ∧ (old .seating none).packerOf 2 x < ((old .seating none).line 2).settings.seatp ∧
      (old .seating none).timerAfter 2 < 60 ∧ ((old .seating none).line 2).sensorsRaised x = 0) ∧
    (((old .shutIn (some .refusal)).line 2).endReason = some .refusal ∧
      (old .shutIn (some .refusal)).timerAfter 2 < ((old .shutIn (some .refusal)).line 2).settings.shutin) ∧
    (((old .decaying (some .aborted)).line 2).settings.relp < (old .decaying (some .aborted)).pcOf 2 y ∧
      (old .decaying (some .aborted)).timerAfter 2 < 300) ∧
    (100 < (old .releasing (some .volume)).packerOf 2 x ∧ (old .releasing (some .volume)).timerAfter 2 < 60) ∧
    (((old .seating none).line 2).circ.age = some 53999 ∧ (old .seating none).ageLimit ((old .seating none).line 2) = some 5400 ∧
      5400 = min 144000 (53999 + 1) / 10) ∧
    ((i.line 3).state = .injecting ∧ i.stageTables (i.line 3) = some workedTables ∧ (i.line 3).bound = some ⟨k16, 3⟩ ∧
      (i.line 3).startClock = some 1215 ∧ (i.line 3).endReason = none ∧ quiet.pulses * (i.line 3).settings.pulse = 0 ∧
      ((i.measure 3 quiet).compute workedTables (i.pcOf 3 quiet) quiet.pulses ((i.measure 3 quiet).line 3)).ended = none) ∧
    (∀ k, i.responses.get k ≠ .endStage) ∧ i.Unqueued 3 := by
  refine ⟨by decide +kernel, by decide +kernel, by decide +kernel, by decide +kernel, by decide +kernel, by decide +kernel,
    fun k => by cases k <;> decide +kernel, unqueued_of (by decide +kernel) (by decide +kernel)⟩

/-- A run falls due at 300 s on a READY agitator and on an empty one, and ends at its three hundredth sample. -/
theorem witness_CirculationRuns :
    let d := put 2 (fun l => { standing .primed l with circ := ⟨some 2999, false, 0, false⟩ }) yard
    let e := put 2 (fun l => { standing .primed l with circ := ⟨some 0, true, 299, false⟩ }) yard
    ((d.line 2).state = .primed ∧ (d.line 2).sensorsRaised quiet = 0 ∧ (d.line 2).inputs.tare = none ∧
      (d.line 2).circ.age = some 2999 ∧ (d.line 2).circ.running = false ∧ (d.line 2).key = .remote ∧ d.loop = .closed ∧
      d.plant.circi = min 144000 (2999 + 1) / 10) ∧ d.SeatCalm 2 quiet ∧
    (∀ lim, d.ageLimit (d.line 2) = some lim → min 144000 (2999 + 1) / 10 < lim) ∧
    ((d.line 2).draw = some .tankA ∧ (d.tank .tankA).state = .ready ∧ 0 < (d.tank .tankA).level) ∧
    (((starved 2999).line 7).draw = some .tankB ∧ ((starved 2999).tank .tankB).level = 0) ∧
    ((e.line 2).circ.running = true ∧ (e.line 2).pendingMix = none ∧ e.plant.circd * 10 = min 3000 (299 + 1) ∧
      (e.line 2).circ.age = some 0) ∧ e.SeatCalm 2 quiet ∧ e.Unqueued 2 ∧
    ∀ lim, e.ageLimit (e.line 2) = some lim → 0 < lim := by
  refine ⟨by decide +kernel, ⟨by decide +kernel, by decide +kernel⟩, of_some 5400 (by decide +kernel) (by decide),
    by decide +kernel, by decide +kernel, by decide +kernel, ⟨by decide +kernel, by decide +kernel⟩,
    unqueued_of (by decide +kernel) (by decide +kernel), of_some 5400 (by decide +kernel) (by decide)⟩

/-- A run due at 310 s under a tare, and one first due at 300 s on the tare's last sample, good or not; the head of a start queue
at its run's last sample. -/
theorem witness_CirculationRuns_deferred :
    let d := put 3 (fun l => { l with circ := ⟨some 3099, false, 0, false⟩ }) (tareAt 18)
    let t := put 3 (fun l => { l with circ := ⟨some 2999, false, 0, false⟩ }) (tareAt 19)
    let h := { put 2 (fun l => { l with circ := ⟨some 0, true, 299, false⟩ }) (two .armed) with
      tankA := { yard.tankA with startQueue := [2, 4], stagger := 20 }
      mixer := .mixing .tankB ⟨.one .tankB, 1, .topup, .auto⟩ }
    ((d.line 3).state = .primed ∧ (d.line 3).inputs.tare = some ⟨18, 3330⟩ ∧ (d.line 3).circ.running = false ∧
      (d.line 3).sensorsRaised quiet = 0 ∧ (d.line 3).circ.age = some 3099 ∧ (3600 ≤ quiet.collar ∧ quiet.collar ≤ 20800)) ∧
    d.SeatCalm 3 quiet ∧
    (∀ lim, d.ageLimit (d.line 3) = some lim → min 144000 (3099 + 1) / 10 < lim ∧ 3099 / 10 < lim) ∧
    ((t.line 3).state = .primed ∧ (t.line 3).inputs.tare = some ⟨19, 3330⟩ ∧ (t.line 3).circ.running = false ∧
      (t.line 3).key = .remote ∧ t.loop = .closed ∧ t.plant.circi = min 144000 (2999 + 1) / 10 ∧
      (t.line 3).draw = some .tankA ∧ (t.tank .tankA).state = .ready ∧ 0 < (t.tank .tankA).level ∧
      ((run (.circulationRunDue 3 quiet) t).tank .tankA).state = .ready ∧
      0 < ((run (.circulationRunDue 3 quiet) t).tank .tankA).level ∧
      ((run (.circulationRunDue 3 quiet) { t with tankA := { t.tankA with level := 0 } }).tank .tankA).level = 0 ∧
      (t.line 3).sensorsRaised quiet = 0 ∧ (t.line 3).sensorsRaised ⟨3599, 8120, 0, 0⟩ = 0 ∧
      (t.line 3).circ.age = some 2999) ∧ t.SeatCalm 3 quiet ∧ t.SeatCalm 3 ⟨3599, 8120, 0, 0⟩ ∧ t.Unqueued 3 ∧
    (∀ lim, t.ageLimit (t.line 3) = some lim → min 144000 (2999 + 1) / 10 < lim ∧ 2999 / 10 < lim) ∧
    ((h.line 2).circ.running = true ∧ (h.line 2).state = .armed ∧ (h.line 2).draw = some .tankA ∧
      (h.tank .tankA).startQueue = 2 :: [4] ∧ 2 ∉ (h.tank AgitatorId.tankA.other).startQueue ∧ (h.line 2).pendingMix = none ∧
      h.mixer ≠ .idle ∧ h.plant.circd * 10 = min 3000 (299 + 1) ∧ (h.tank .tankA).state = .ready ∧
      (h.tank .tankA).mix = (h.line 2).drawMix ∧ 0 < (h.tank .tankA).level ∧ h.plant.stagger = (h.tank .tankA).stagger ∧
      (h.line 2).circ.age = some 0 ∧ (h.line 2).sensorsRaised quiet = 0 ∧ (h.line 2).inputs.tare = none) ∧ h.SeatCalm 2 quiet ∧
    ∀ lim, h.ageLimit (h.line 2) = some lim → 0 < lim := by
  refine ⟨by decide +kernel, ⟨by decide +kernel, by decide +kernel⟩, of_some 5400 (by decide +kernel) (by decide),
    by decide +kernel, ⟨by decide +kernel, by decide +kernel⟩, ⟨by decide +kernel, by decide +kernel⟩,
    unqueued_of (by decide +kernel) (by decide +kernel), of_some 5400 (by decide +kernel) (by decide),
    by decide +kernel, ⟨by decide +kernel, by decide +kernel⟩, of_some 5400 (by decide +kernel) (by decide)⟩

/-- Gauge 4 of 7.10 in its states, at the bounds of the good range and of its tests, and the tenth bad or good sample. -/
theorem witness_GaugeSamplesAreTested :
    let q := fun st => (heaved st 105).gauge 4
    let heave := fun current : Int => max (-5000) (min 5000 (((current - 12000) * 5000).tdiv 8000)) - 20
    (yard.gauge 7).state = .off ∧ (yard.gauge 4).state = .idle ∧ ¬(3600 ≤ 3599 ∧ 3599 ≤ 20800) ∧ (3600 ≤ 20800 ∧ 20800 ≤ 20800) ∧
    (yard.gauge 4).faults < 9 ∧ (∀ n, (4 : GaugeId) ∉ (yard.line n).watched) ∧
    ((q .watch).state = .watch ∧ heave 12190 < (q .watch).warn) ∧ ((q .warn).state = .warn ∧ heave 12159 < 100 - 20) ∧
    (heave 12192 = (q .watch).warn ∧ heave 12160 = 100 - 20 ∧ heave 12192 < (q .watch).alarm) ∧
    (q .alarm).state = .alarm ∧ (q .warn).alarm = heave 12352 ∧
    ((4 : GaugeId) ∈ ((heaved .warn 105).line 2).watched ∧ ((heaved .warn 105).line 2).state = .injecting) ∧
    ((4 : GaugeId) ∉ ((heaved .warn 105).line 1).watched) ∧ 0 < (q .fault).warn ∧ 0 < (q .fault).alarm ∧ (q .fault).state = .fault ∧
    ({ yard.gauge 4 with faults := 9 } : Gauge).state = .idle ∧
    (∃ n, (4 : GaugeId) ∈ ((heaved .fault 105).line n).watched) := by decide +kernel

/-- Held samples of gauge 4 before the tenth, its held heave at the bounds of the tests; the ninth good sample in FAULT and a bad one
that makes its fault count 10. -/
theorem witness_GaugeSamplesAreTested_held :
    let q := fun st (heave : Int) faults => { (heaved st 105).gauge 4 with heave := heave, faults := faults }
    (¬(3600 ≤ 20801 ∧ 20801 ≤ 20800) ∧ ¬(3600 ≤ 3599 ∧ 3599 ≤ 20800)) ∧
    ((q .watch 119 8).faults ≠ 9 ∧ (119 : Int) - (q .watch 119 8).baseline + 1 = (q .watch 119 8).warn) ∧
    ((120 : Int) - (q .watch 120 8).baseline = (q .watch 120 8).warn ∧
      (99 : Int) - (q .warn 99 8).baseline + 1 = (q .warn 99 8).warn - (q .warn 99 8).hyst ∧
      (220 : Int) - (q .warn 220 8).baseline = (q .warn 220 8).alarm) ∧ ((q .alarm 230 8).state = .alarm) ∧
    ({ q .fault 20 0 with goods := 8 } : Gauge).goods < 9 ∧ (q .fault 20 9).state = .fault ∧ (q .fault 20 9).faults = 9 := by
  decide +kernel

/-- The mixer idle, WAITING and MIXING short of its time and at it; a TOPUP and a CHANGE that it may take behind one that must
wait. -/
theorem witness_SecondsAndRequestsDriveThePlant :
    let top : Request := ⟨.one .tankB, 1, .topup, .auto⟩
    let change : Request := ⟨.one .tankB, 3, .change, .order⟩
    let wait : Request := ⟨.one .tankA, 3, .change, .order⟩
    let s := { tables with batchQueue := [wait, top] }
    let t := { tables with batchQueue := [wait, change] }
    yard.mixer = .idle ∧ changing.mixer = .mixing .tankB ⟨.one .tankB, 3, .change, .line 3⟩ ∧
    changing.plant.batcht = changing.phaseTimer + 1 ∧ 178 + 1 < changing.plant.batcht ∧ 58 + 1 < changing.plant.dumpt ∧
    changing.plant.dumpt = 59 + 1 ∧
    (s.mixer = .idle ∧ (∀ r ∈ [wait], s.discards r = false ∧ s.eligible r = none) ∧ s.batchQueue = [wait] ++ top :: [] ∧
      (s.tank .tankB).state = .ready ∧ (s.tank .tankB).mix = some 1 ∧
      (s.tank .tankB).level + s.plant.batchv * 1000 ≤ (s.tank .tankB).cap * 1000) ∧
    (t.batchQueue = [wait] ++ change :: [] ∧ (∀ n, (t.line n).draw ≠ some .tankB) ∧ change.origin = .order ∧
      0 < (t.tank .tankB).level ∧ (Tank.powerOn.state = .empty ∧ Tank.powerOn.level = 0)) := by decide +kernel

/-- A request for ANY behind a TOPUP that is discarded and a CHANGE that waits: it is settled on B, from which no line draws. -/
theorem witness_SecondsAndRequestsDriveThePlant_any :
    let gone : Request := ⟨.one .tankA, 3, .topup, .auto⟩
    let wait : Request := ⟨.one .tankA, 3, .change, .order⟩
    let any : Request := ⟨.any, 4, .change, .order⟩
    let s := { tables with batchQueue := [gone, wait, any] }
    s.mixer = .idle ∧ s.batchQueue = [gone, wait] ++ any :: [] ∧
    (∀ q ∈ [gone, wait], s.discards q = true ∨ s.eligible q = none) ∧ s.discards any = false ∧ s.eligible any = some .tankB ∧
    (s.discards gone = true ∧ s.eligible wait = none) ∧ any.kind = .change ∧ 0 < (s.tank .tankB).level := by decide +kernel

/-- 5.10.2's switchover, and the grant at the twentieth second. -/
theorem witness_SwitchoversAndGrants :
    let s := put 6 (fun l => { staged .paused k14 4 l with pendingMix := some 1 }) yard
    let t := { two .armed with tankA := { yard.tankA with startQueue := [2, 4], stagger := 20 } }
    ((s.line 6).state = .paused ∧ (s.line 6).pendingMix = some 1 ∧ (s.line 6).draw = some .tankA ∧
      (s.tank AgitatorId.tankA.other).state = .ready ∧ (s.tank AgitatorId.tankA.other).mix = some 1 ∧
      0 < (s.tank AgitatorId.tankA.other).level) ∧
    ((t.tank .tankA).startQueue = 2 :: [4] ∧ (t.tank .tankA).state = .ready ∧ (t.tank .tankA).mix = (t.line 2).drawMix ∧
      0 < (t.tank .tankA).level ∧ t.plant.stagger = (t.tank .tankA).stagger ∧ (t.line 2).circ.running = false ∧
      (t.line 2).inputs.tare = none) := by decide +kernel

/-- A part at work with a command waiting: line 1 ARMED in its queue, line 3 INJECTING. -/
def busy : State := { tables with tankA := { yard.tankA with startQueue := [1] }, pending := [.siteStopOpen] }

theorem witness_SettlingLeavesNothingDue : busy.QueuesArmed := by
  intro t; cases t <;> decide +kernel

/-- While the mixer is at work: B below its low level of 300 litres; and line 3 waiting for mix 4 while lines draw from A alone, from
both agitators, and from neither. -/
theorem witness_SettlingLeavesNothingDue_requests :
    let mixing : Mixer := .mixing .tankB ⟨.one .tankB, 1, .topup, .auto⟩
    let low := { tables with mixer := mixing, tankB := { yard.tankB with low := 300 } }
    let wait := put 3 (fun l => { l with pendingMix := some 4 }) { tables with mixer := mixing }
    let both := put 1 (fun l => { l with draw := some .tankB }) wait
    let neither := put 1 (fun l => { l with draw := none }) (put 3 (fun l => { l with draw := none }) wait)
    (low.mixer ≠ .idle ∧ (low.tank .tankB).state = .ready ∧ (low.tank .tankB).level < (low.tank .tankB).low * 1000 ∧
      (low.tank .tankB).mix = some 1 ∧ low.batchQueue = [] ∧ low.batchQueue.length + 1 < 8) ∧
    (wait.mixer ≠ .idle ∧ (wait.line 3).state = .injecting ∧ (wait.line 3).pendingMix = some 4 ∧
      (∀ m, m ≠ 3 → (wait.line m).pendingMix = none) ∧ (wait.tank .tankA).mix ≠ some 4 ∧ (wait.tank .tankB).mix ≠ some 4 ∧
      (wait.tank .tankA).low * 1000 ≤ (wait.tank .tankA).level ∧ (wait.tank .tankB).low * 1000 ≤ (wait.tank .tankB).level ∧
      wait.batchQueue = []) ∧
    ((∃ m, (wait.line m).draw = some AgitatorId.tankB.other) ∧ ¬∃ m, (wait.line m).draw = some .tankB) ∧
    ((∃ m, (both.line m).draw = some .tankA) ∧ ∃ m, (both.line m).draw = some .tankB) ∧
    ((¬∃ m, (neither.line m).draw = some .tankA) ∧ ¬∃ m, (neither.line m).draw = some .tankB) := by decide +kernel

theorem witness_StepsKeepPumpsStopped :
    (run .siteStopOpen tables).PumpsStopped ∧ (run .siteStopOpen tables).loop = .opened :=
  ⟨fun _ => by decide +kernel, by decide +kernel⟩

theorem witness_StepsKeepOutputsFollowing : busy.OutputsFollow ∧ busy.RatesBounded := by
  constructor
  · unfold State.OutputsFollow; decide +kernel
  · unfold State.RatesBounded; decide +kernel

theorem witness_StepsKeepStoresBounded : busy.StoresBounded ∧ busy.PendingFull := by
  refine ⟨⟨by decide +kernel, by decide +kernel, by decide +kernel, by decide +kernel, by decide +kernel, by decide +kernel,
    by decide +kernel⟩, by decide +kernel, by decide +kernel⟩

theorem yard_mixes : ∀ j a, busy.mixEntry j = some a →
    (j = 1 ∧ a.density = 1400) ∨ (j = 2 ∧ a.density = 1600) ∨ (j = 3 ∧ a.density = 1680) ∨ (j = 4 ∧ a.density = 1760) := by
  intro j a h
  match j with
  | 0 => cases h
  | 1 | 2 | 3 | 4 => cases h; decide
  | 5 | 6 => cases h
  | n + 7 => cases h

theorem witness_StepsKeepTablesOrdered : busy.LevelsBounded ∧ busy.TablesOrdered := by
  refine ⟨fun t => by cases t <;> decide +kernel, by decide +kernel, ?_⟩
  intro j k a b ha hb h
  rcases yard_mixes j a ha with ⟨rfl, p⟩ | ⟨rfl, p⟩ | ⟨rfl, p⟩ | ⟨rfl, p⟩ <;>
    rcases yard_mixes k b hb with ⟨rfl, q⟩ | ⟨rfl, q⟩ | ⟨rfl, q⟩ | ⟨rfl, q⟩ <;> simp_all

theorem witness_StepsKeepAlarmsStopping : busy.QueuesArmed ∧ busy.AlarmsStop := by
  refine ⟨fun t => by cases t <;> decide +kernel, ?_⟩
  unfold State.AlarmsStop; decide +kernel

theorem witness_StepsKeepTheBookMapped : busy.BookMapped := by
  unfold State.BookMapped; decide +kernel

/-- The step that these conditions are kept over: the loop opens. -/
theorem witness_StepsKeep_step : (after (step busy)).loop = .opened ∧ (after (step busy)).pending = [] := by decide +kernel

end Sys2Proof.Tests
end

section
/-! The table orders ENVDEF, PROFILE and POINT (R79, R80, R84): one order of checks shared by the three, and for each the
meaning of its range check and of its in-use mark. -/

namespace Sys2Proof.Machine

variable (s : State)

/-! ### An engineer order that replaces one entry of a table -/

/-- The shape of ENVDEF, PROFILE and POINT: KEY, RANGE for the index, RANGE for the fields, BUSY for an entry in use, else the
entry written. -/
def State.writeEntry {α : Type} (i : Option α) (bad : Bool) (inUse : α → Bool) (write : α → State) : State :=
  s.engineer <| s.withIndex i fun x => s.judge [(bad, .range), (inUse x, .busy)] (write x)

theorem exec_envdef (e : Nat) (r : Envelope) :
    exec (.envdef e r) s = .next (s.writeEntry (envelopeOf e) (!envelopeFieldsOk r) (fun i => !(s.envelopeHolders i).isEmpty)
      fun i => { s with envelopes := s.envelopes.set i (some r) }) := rfl

theorem exec_profile (w base count : Nat) :
    exec (.profile w base count) s = .next (s.writeEntry (windowOf w)
      (!inRange 0 255 base || !inRange 1 32 count || decide (256 < base + count)) (fun i => !(s.windowHolders i).isEmpty)
      fun i => { s with windows := s.windows.set i (some ⟨base, count⟩) }) := rfl

theorem exec_point (i target dwell : Nat) :
    exec (.point i target dwell) s = .next (s.writeEntry (pointOf i) (!inRange 0 10000 target || !inRange 0 3600 dwell)
      s.pointInUse fun p => { s with points := s.points.set p ⟨target, dwell⟩ }) := rfl

section
variable {s} {α : Type} {i : Option α} {x : α} {bad : Bool} {inUse : α → Bool} {write : α → State}

theorem State.writeEntry_of_run (hk : s.config = .run) : s.writeEntry i bad inUse write = s.refuse .key :=
  s.engineer_of_ne (by simp [hk]) _

theorem State.writeEntry_of_no_index (hk : s.config = .enable) (hi : i = none) :
    s.writeEntry i bad inUse write = s.refuse .range := by
  simp [State.writeEntry, hk, hi]

theorem State.writeEntry_of_bad (hk : s.config = .enable) (hi : i = some x) (hb : bad = true) :
    s.writeEntry i bad inUse write = s.refuse .range := by
  simp [State.writeEntry, State.judge, hk, hi, hb]

theorem State.writeEntry_of_inUse (hk : s.config = .enable) (hi : i = some x) (hb : bad = false) (hu : inUse x = true) :
    s.writeEntry i bad inUse write = s.refuse .busy := by
  simp [State.writeEntry, State.judge, hk, hi, hb, hu]

theorem State.writeEntry_of_free (hk : s.config = .enable) (hi : i = some x) (hb : bad = false) (hu : inUse x = false) :
    s.writeEntry i bad inUse write = (write x).answer (.ok []) := by
  rw [State.writeEntry, s.engineer_of_enable hk, hi, s.withIndex_some]
  exact s.judge_of_pass (by simp [hb, hu]) _ _

end

/-- The outcomes of a table order in the order of its checks, for a table numbered from 0 to `n - 1`: `fields` is what the range
check asks of the fields, and `held` and `free` are what the in-use mark says of the entry. -/
theorem State.writeEntry_outcomes {n k : Nat} {bad : Bool} {inUse : Fin n → Bool} {write : Fin n → State}
    {fields : Prop} {held free : Fin n → Prop} (hb : bad = false ↔ fields)
    (hu : ∀ x : Fin n, x.val = k → (inUse x = true ↔ held x)) (hf : ∀ x, free x ↔ ¬held x) :
    let order : Host.Outcome State Fault Refusal :=
      .next (s.writeEntry (if h : k < n then some ⟨k, h⟩ else none) bad inUse write)
    (s.config = .run → order = .next (s.refuse .key)) ∧ (s.config = .enable →
      (¬(k < n ∧ fields) → order = .next (s.refuse .range)) ∧
      ∀ x : Fin n, x.val = k → fields →
        (held x → order = .next (s.refuse .busy)) ∧ (free x → order = .next ((write x).answer (.ok [])))) := by
  refine ⟨fun hk => congrArg _ (writeEntry_of_run hk), fun hk => ⟨fun wrong => congrArg _ ?range, ?taken⟩⟩
  case range =>
    by_cases h : k < n
    · have hbad : bad = true := by simpa [h, ← hb] using wrong
      exact writeEntry_of_bad hk (dif_pos h) hbad
    · exact writeEntry_of_no_index hk (dif_neg h)
  case taken =>
    rintro x rfl ok
    have hi : (if h : x.val < n then some (⟨x.val, h⟩ : Fin n) else none) = some x := dif_pos x.isLt
    refine ⟨fun h => congrArg _ (writeEntry_of_inUse hk hi (hb.2 ok) ((hu x rfl).2 h)),
      fun h => congrArg _ (writeEntry_of_free hk hi (hb.2 ok) ?_)⟩
    exact Bool.eq_false_iff.2 fun used => (hf x).1 h ((hu x rfl).1 used)

/-! ### Range checks (R79, R80, R84) -/

/-- The range check of ENVDEF passes exactly where the eight fields are each in the range of R83. -/
theorem envdefRangeCheck_iff (r : Envelope) : (!envelopeFieldsOk r) = false ↔
    (100 ≤ r.pmax ∧ r.pmax ≤ 10000) ∧ (1 ≤ r.vmax ∧ r.vmax ≤ 1000) ∧ (10 ≤ r.ginmax ∧ r.ginmax ≤ 5000) ∧ r.rflow ≤ 200 ∧
      (10 ≤ r.rtime ∧ r.rtime ≤ 3600) ∧ r.band ≤ 1000 ∧ (1 ≤ r.tvol ∧ r.tvol ≤ 500) ∧ (10 ≤ r.tpct ∧ r.tpct ≤ 95) := by
  simp [envelopeFieldsOk, inRange, and_assoc]

/-- The range check of PROFILE passes exactly for the bases and counts of R77. -/
theorem profileRangeCheck_iff (base count : Nat) :
    (!inRange 0 255 base || !inRange 1 32 count || decide (256 < base + count)) = false ↔
      base ≤ 255 ∧ 1 ≤ count ∧ count ≤ 32 ∧ base + count ≤ 256 := by
  simp [inRange, and_assoc]

/-- The range check of POINT passes exactly for the targets and dwells of R76. -/
theorem pointRangeCheck_iff (target dwell : Nat) :
    (!inRange 0 10000 target || !inRange 0 3600 dwell) = false ↔ target ≤ 10000 ∧ dwell ≤ 3600 := by
  simp [inRange]

/-! ### In-use marks (R78, R85) -/

/-- An envelope has a holder exactly where some line holds it (R85). -/
theorem State.envelopeHolders_nonempty_iff (e : EnvelopeId) :
    (!(s.envelopeHolders e).isEmpty) = true ↔ ∃ n, (s.line n).envelope = some e := by
  simp [State.envelopeHolders, mem_allLines]

/-- A window has a holder exactly where some line holds it (R78). -/
theorem State.windowHolders_nonempty_iff (w : WindowId) :
    (!(s.windowHolders w).isEmpty) = true ↔ ∃ n, (s.line n).window = some w := by
  simp [State.windowHolders, mem_allLines]

/-- A point is in use exactly where a line holds a defined window whose range it lies in (R78). -/
theorem State.pointInUse_iff (p : PointId) : s.pointInUse p = true ↔
    ∃ n w d, (s.line n).window = some w ∧ s.windows[w] = some d ∧ d.base ≤ p.val ∧ p.val < d.base + d.count := by
  simp [State.pointInUse, Window.covers, mem_allLines, Option.any_eq_true]

/-! ### The obligation -/

/-- Settles O15: each of the three orders is a `writeEntry`, so `State.writeEntry_outcomes` gives its outcomes once its range
check and its in-use mark are read as the statement writes them. -/
theorem tableEntriesAreReplaced : Obligations.TableEntriesAreReplaced := by
  refine ⟨fun e r s => ?envdef, fun w base count s => ?profile, fun i target dwell s => ?point⟩
  case envdef =>
    rw [exec_envdef]
    exact s.writeEntry_outcomes (envdefRangeCheck_iff r) (fun x _ => s.envelopeHolders_nonempty_iff x)
      fun _ => not_exists.symm
  case profile =>
    rw [exec_profile]
    exact s.writeEntry_outcomes (profileRangeCheck_iff base count) (fun x _ => s.windowHolders_nonempty_iff x)
      fun _ => not_exists.symm
  case point =>
    rw [exec_point]
    refine s.writeEntry_outcomes (pointRangeCheck_iff target dwell) ?_ fun _ => Iff.rfl
    rintro p rfl
    exact s.pointInUse_iff p

end Sys2Proof.Machine
end

section
/-! The mix table orders MIXDEF and DROPMIX and the read form (R89 to R91): what the table reads back after an entry is written,
the meaning of each check, and the order of checks that the two writing orders share. -/

namespace Sys2Proof.Machine

variable (s : State) (k : Nat)

/-! ### Reading the mix table -/

/-- The mixes that the table can hold are numbered 1 to 6 (R89). -/
theorem State.mixEntry_index {j : Nat} {a : Mix} (h : s.mixEntry j = some a) : 1 ≤ j ∧ j ≤ 6 := by
  have low : j ≠ 0 := by
    rintro rfl
    simp [State.mixEntry] at h
  have high : j - 1 < 6 := by
    refine Decidable.byContradiction fun beyond => ?_
    simp [State.mixEntry, low, beyond] at h
  omega

/-- `t` is `s` with entry `k` of the mix table read as `e`, and every other entry and everything else as before (R90, R91). -/
def State.ReplacesMix (s t : State) (k : MixNo) (e : Option Mix) : Prop :=
  t.mixEntry k = e ∧ (∀ j, j ≠ k → t.mixEntry j = s.mixEntry j) ∧ t = { s with mixes := t.mixes }

theorem State.mixEntry_setMix_same {k : Nat} (hk : 1 ≤ k ∧ k ≤ 6) (e : Option Mix) : (s.setMix k e).mixEntry k = e := by
  have positive : k ≠ 0 := by omega
  have inside : k - 1 < 6 := by omega
  simp [State.mixEntry, State.setMix, positive, inside]

theorem State.mixEntry_setMix_of_ne {j k : Nat} (h : j ≠ k) (e : Option Mix) : (s.setMix k e).mixEntry j = s.mixEntry j := by
  by_cases hk : k = 0
  · simp [State.setMix, hk]
  · by_cases hj : j = 0
    · simp [State.mixEntry, hj]
    · have apart : k - 1 ≠ j - 1 := by omega
      simp [State.mixEntry, State.setMix, hk, hj, Vector.getElem?_setIfInBounds_ne apart]

theorem State.setMix_replacesMix (hk : 1 ≤ k ∧ k ≤ 6) (e : Option Mix) : s.ReplacesMix (s.setMix k e) k e := by
  refine ⟨s.mixEntry_setMix_same hk e, fun j h => s.mixEntry_setMix_of_ne h e, ?frame⟩
  unfold State.setMix; split <;> rfl

/-! ### Range checks (R89, R168) -/

theorem mixOk_iff : mixOk k = true ↔ 1 ≤ k ∧ k ≤ 6 := by simp [mixOk, inRange]

/-- The range check of DROPMIX and of the read form passes exactly for the six mix numbers (R168). -/
theorem mixIndexCheck_iff : (!mixOk k) = false ↔ 1 ≤ k ∧ k ≤ 6 := by simp [mixOk_iff]

/-- The characters of a tag are those of R89's two ranges. -/
theorem tagChar_iff (c : Char) : tagChar c = true ↔ ('A' ≤ c ∧ c ≤ 'Z') ∨ ('0' ≤ c ∧ c ≤ '9') := by simp [tagChar]

/-- The fields of a mix are each in the range of R89. -/
def MixInRange (m : Mix) : Prop :=
  (1 ≤ m.tag.length ∧ m.tag.length ≤ 8 ∧ ∀ c ∈ m.tag, ('A' ≤ c ∧ c ≤ 'Z') ∨ ('0' ≤ c ∧ c ≤ '9')) ∧
    50 ≤ m.wc ∧ m.wc ≤ 600 ∧ 1000 ≤ m.density ∧ m.density ≤ 2300 ∧ m.friction ≤ 500 ∧ 10 ≤ m.settime ∧ m.settime ≤ 240

theorem mixFieldsOk_iff (m : Mix) : mixFieldsOk m = true ↔ MixInRange m := by
  simp [mixFieldsOk, mixTagOk, MixInRange, inRange, tagChar_iff, and_assoc]

/-- The range check of MIXDEF passes exactly for a mix number and the fields of R89. -/
theorem mixdefRangeCheck_iff (m : Mix) : (!mixOk k || !mixFieldsOk m) = false ↔ (1 ≤ k ∧ k ≤ 6) ∧ MixInRange m := by
  simp [mixOk_iff, mixFieldsOk_iff]

/-! ### The in-use mark (R89) -/

theorem Mixer.service_eq_some {x : Mixer} {r : Request} : x.service = some r ↔ ∃ t, x = .waiting t r ∨ x = .mixing t r := by
  cases x <;> simp [Mixer.service]

/-- What makes mix `k` in use: a line, an agitator, a queued request or the request in service holds it (R89). -/
def State.UsesMix (s : State) (k : MixNo) : Prop :=
  (∃ n, (s.line n).columnMix = some k ∨ (s.line n).drawMix = some k ∨ (s.line n).pendingMix = some k) ∨
    (∃ a, (s.tank a).mix = some k) ∨ (∃ r ∈ s.batchQueue, r.mix = k) ∨
    ∃ a r, (s.mixer = .waiting a r ∨ s.mixer = .mixing a r) ∧ r.mix = k

/-- Some agitator has mix `k` exactly where A or B has it. -/
theorem State.exists_tank_mix_iff : (∃ a, (s.tank a).mix = some k) ↔ s.tankA.mix = some k ∨ s.tankB.mix = some k := by
  constructor
  · rintro ⟨_ | _, h⟩
    · exact .inl h
    · exact .inr h
  · rintro (h | h)
    · exact ⟨.tankA, h⟩
    · exact ⟨.tankB, h⟩

/-- The request in service is for mix `k` exactly where the mixer waits or mixes for such a request. -/
theorem Mixer.service_any_iff (x : Mixer) : (x.service.any fun r => r.mix == k) = true ↔
    ∃ a r, (x = .waiting a r ∨ x = .mixing a r) ∧ r.mix = k := by
  rw [exists_comm]
  simp [Option.any_eq_true, Mixer.service_eq_some, exists_and_right]

theorem State.mixInUse_iff : s.mixInUse k = true ↔ s.UsesMix k := by
  simp [State.mixInUse, State.UsesMix, mem_allLines, s.exists_tank_mix_iff, Mixer.service_any_iff, or_assoc]

/-! ### The order of densities (R90) -/

/-- A mix of density `d` at `k` keeps the strict rise of density with index over the defined mixes (R90). -/
def State.FitsDensity (s : State) (k : MixNo) (d : Nat) : Prop :=
  ∀ j a, s.mixEntry j = some a → (j < k → a.density < d) ∧ (k < j → d < a.density)

/-- The density check looks at the six numbers that a defined mix can have, so it passes exactly where the density fits. -/
theorem State.densityFails_eq_false_iff (d : Nat) : s.densityFails k d = false ↔ s.FitsDensity k d := by
  have everywhere : s.densityFails k d = false ↔ ∀ j ∈ [1, 2, 3, 4, 5, 6], ∀ a, s.mixEntry j = some a →
      (j < k → a.density < d) ∧ (k < j → d < a.density) := by
    simp only [State.densityFails, List.any_eq_false, Option.any_eq_true, decide_eq_true_eq, not_exists, not_and, not_or,
      Nat.not_le]
  refine everywhere.trans ⟨fun h (j : Nat) a ha => h j ?listed a ha, fun h j _ a ha => h j a ha⟩
  obtain ⟨low, high⟩ := s.mixEntry_index ha
  have six : j = 1 ∨ j = 2 ∨ j = 3 ∨ j = 4 ∨ j = 5 ∨ j = 6 := by omega
  simpa only [List.mem_cons, List.not_mem_nil, or_false] using six

/-! ### The order of checks -/

/-- The shape of MIXDEF and DROPMIX: KEY, RANGE, BUSY for a mix in use, a last check of the order's own, else the entry
written. -/
def State.writeMix (bad last : Bool) (why : Reason) (e : Option Mix) : State :=
  s.engineer <| s.judge [(bad, .range), (s.mixInUse k, .busy), (last, why)] (s.setMix k e)

theorem exec_mixdef (m : Mix) : exec (.mixdef k m) s =
    .next (s.writeMix k (!mixOk k || !mixFieldsOk m) (s.densityFails k m.density) .order (some m)) := rfl

theorem exec_dropmix : exec (.dropmix k) s = .next (s.writeMix k (!mixOk k) (s.mixEntry k).isNone .absent none) := rfl

theorem exec_mixdefRead : exec (.mixdefRead k) s = .next (orderMixdefRead k s) := rfl

theorem State.writeMix_of_run {bad last : Bool} {why : Reason} {e : Option Mix} (hs : s.config = .run) :
    s.writeMix k bad last why e = s.refuse .key :=
  s.engineer_of_ne (by simp [hs]) _

/-- The outcomes of MIXDEF and DROPMIX under ENABLE in the order of their checks: `ok` is what the range check asks and `free`
what the last check asks. -/
theorem State.writeMix_outcomes {bad last : Bool} {why : Reason} {e : Option Mix} {ok free : Prop}
    (hs : s.config = .enable) (hb : bad = false ↔ ok) (hl : last = false ↔ free) (hk : ok → 1 ≤ k ∧ k ≤ 6) :
    let order : Host.Outcome State Fault Refusal := .next (s.writeMix k bad last why e)
    (¬ok → order = .next (s.refuse .range)) ∧ (ok → s.UsesMix k → order = .next (s.refuse .busy)) ∧
    (ok → ¬s.UsesMix k → ¬free → order = .next (s.refuse why)) ∧
    (ok → ¬s.UsesMix k → free → ∃ t : State, order = .next (t.answer (.ok [])) ∧ s.ReplacesMix t k e) := by
  simp only [← hb, ← hl, ← s.mixInUse_iff, Bool.not_eq_false, Bool.not_eq_true, State.writeMix, s.engineer_of_enable hs]
  refine ⟨fun range => ?range, fun range used => ?busy, fun range used failed => ?last, fun range used passed => ?taken⟩
  case range => simp [State.judge, range]
  case busy => simp [State.judge, range, used]
  case last => simp [State.judge, range, used, failed]
  case taken =>
    exact ⟨s.setMix k e, congrArg _ (s.judge_of_pass (by simp [range, used, passed]) _ _),
      s.setMix_replacesMix k (hk (hb.1 range)) e⟩

/-! ### The read form (R91) -/

theorem orderMixdefRead_of_run (hs : s.config = .run) : orderMixdefRead k s = s.refuse .key :=
  s.engineer_of_ne (by simp [hs]) _

section
variable {s k}

theorem orderMixdefRead_of_not_index (hs : s.config = .enable) (hk : ¬(1 ≤ k ∧ k ≤ 6)) :
    orderMixdefRead k s = s.refuse .range := by
  simp [orderMixdefRead, hs, mixOk_iff, hk]

theorem orderMixdefRead_of_undefined (hs : s.config = .enable) (hk : 1 ≤ k ∧ k ≤ 6) (he : s.mixEntry k = none) :
    orderMixdefRead k s = s.refuse .absent := by
  simp [orderMixdefRead, hs, mixOk_iff, hk, he]

theorem orderMixdefRead_of_defined {e : Mix} (hs : s.config = .enable) (hk : 1 ≤ k ∧ k ≤ 6) (he : s.mixEntry k = some e) :
    orderMixdefRead k s = s.answer (.ok
      [.num k, .word e.tag, .num e.wc, .num e.density, .num e.friction, .num e.settime, .flag (s.mixInUse k)]) := by
  simp [orderMixdefRead, hs, mixOk_iff, hk, he, mixFields, natField]

end

/-! ### The obligation -/

/-- Settles O14: MIXDEF and DROPMIX are each a `writeMix`, so `State.writeMix_outcomes` gives their outcomes once their range
check and last check are read as the statement writes them; the read form has an equation for each of its outcomes. -/
theorem mixTableOrders : Obligations.MixTableOrders := by
  intro k m s
  rw [exec_mixdef, exec_dropmix, exec_mixdefRead]
  refine ⟨fun run => ?key, fun enable => ?judged⟩
  case key =>
    exact ⟨congrArg _ (s.writeMix_of_run k run), congrArg _ (s.writeMix_of_run k run),
      congrArg _ (orderMixdefRead_of_run s k run)⟩
  case judged =>
    intro inRange tag inUse fields ordered
    obtain ⟨defRange, defBusy, defOrder, defTaken⟩ := s.writeMix_outcomes k (why := .order) (e := some m) enable
      (mixdefRangeCheck_iff k m) (s.densityFails_eq_false_iff k m.density) And.left
    have defined : (s.mixEntry k).isNone = false ↔ s.mixEntry k ≠ none := by simp [Option.isSome_iff_ne_none]
    obtain ⟨dropRange, dropBusy, dropAbsent, dropTaken⟩ := s.writeMix_outcomes k (why := .absent) (e := none) enable
      (mixIndexCheck_iff k) defined id
    refine ⟨defRange, fun i f => defBusy ⟨i, f⟩, fun i f => defOrder ⟨i, f⟩, fun i f => defTaken ⟨i, f⟩,
      dropRange, dropBusy, fun i u undefined => dropAbsent i u (Classical.not_not.2 undefined), dropTaken,
      fun outside => congrArg _ (orderMixdefRead_of_not_index enable outside),
      fun i undefined => congrArg _ (orderMixdefRead_of_undefined enable i undefined), fun e used i entry mark => ?read⟩
    have shown : used = s.mixInUse k := Bool.eq_iff_iff.2 (mark.trans (s.mixInUse_iff k).symm)
    rw [shown]
    exact congrArg _ (orderMixdefRead_of_defined enable i entry)

end Sys2Proof.Machine
end

section
/-! The stage book and the completion map (chapter 6): the stage order rule (R123), and STAGE ADD, STAGE DROP and HOLE CLEAR
(R116, R117, R120) with the meaning of each of their checks and the order of checks that the three share. -/

namespace Sys2Proof.Machine

variable (s : State) (hole : Tag) (k : Nat)

/-! ### The stage order rule (R123) -/

/-- Under DOWN the rule asks for the marks of the stages below `k`; the model's list of them also holds 0, which is no stage. -/
theorem State.stageOrderHolds_down (h : s.plant.method = .down) :
    s.stageOrderHolds hole k = true ↔ ∀ j, 1 ≤ j → j < k → s.mark hole j = true := by
  have listed : s.stageOrderHolds hole k = true ↔ ∀ j < k, j = 0 ∨ s.mark hole j = true := by
    simp [State.stageOrderHolds, h]
  rw [listed]
  constructor
  · intro marked j positive below
    exact (marked j below).resolve_left (Nat.ne_of_gt positive)
  · intro marked j below
    exact j.eq_zero_or_pos.imp_right fun positive => marked j positive below

/-- Under UP the rule asks that the hole's records of the stages above `k` are DONE. -/
theorem State.stageOrderHolds_up (h : s.plant.method = .up) :
    s.stageOrderHolds hole k = true ↔ ∀ r ∈ s.book, r.hole = hole → k < r.stage → r.status = .done := by
  have listed : s.stageOrderHolds hole k = true ↔
      ∀ r ∈ s.book, (r.hole ≠ hole ∨ r.stage ≤ k) ∨ r.status = .done := by
    simp [State.stageOrderHolds, h]
  rw [listed]
  exact forall₂_congr fun r _ => by rw [Decidable.or_iff_not_imp_left, not_or, Decidable.not_not, Nat.not_le, and_imp]

/-- Settles O23: the rule has one equivalence for each METHOD. -/
theorem stageOrderRuleOfTheMethod : Obligations.StageOrderRuleOfTheMethod := by
  intro s hole k
  exact ⟨s.stageOrderHolds_down hole k, s.stageOrderHolds_up hole k⟩

/-! ### Hole tags and range checks (R115, R116) -/

theorem holeTagOk_iff : holeTagOk hole = true ↔ 1 ≤ hole.length ∧ hole.length ≤ 6 ∧
    (∀ c ∈ hole, ('A' ≤ c ∧ c ≤ 'Z') ∨ ('0' ≤ c ∧ c ≤ '9')) ∧ hole ≠ ['A', 'D', 'D'] ∧ hole ≠ ['D', 'R', 'O', 'P'] := by
  simp [holeTagOk, inRange, tagChar_iff, and_assoc]

theorem stageOk_iff : stageOk k = true ↔ 1 ≤ k ∧ k ≤ 20 := by simp [stageOk, inRange]

/-- The range check of the orders that name a stage passes exactly for a hole tag and a stage number (R115). -/
theorem stageRangeCheck_iff : (!holeTagOk hole || !stageOk k) = false ↔ holeTagOk hole = true ∧ 1 ≤ k ∧ k ≤ 20 := by
  simp [stageOk_iff]

/-- The range check of STAGE ADD passes exactly for the fields of R116. -/
theorem stageAddRangeCheck_iff (top bottom : Nat) (gs : List GaugeId) :
    (!stageAddValid hole k top bottom gs) = false ↔ holeTagOk hole = true ∧ (1 ≤ k ∧ k ≤ 20) ∧ bottom ≤ 2000 ∧
      top + 10 ≤ bottom ∧ bottom ≤ top + 300 ∧ gs.Nodup := by
  have depth : (top < bottom ∧ bottom ≤ 2000 ∧ 10 ≤ bottom - top ∧ bottom - top ≤ 300) ↔
      bottom ≤ 2000 ∧ top + 10 ≤ bottom ∧ bottom ≤ top + 300 := by omega
  have asked : (!stageAddValid hole k top bottom gs) = false ↔ holeTagOk hole = true ∧ (1 ≤ k ∧ k ≤ 20) ∧
      (top < bottom ∧ bottom ≤ 2000 ∧ 10 ≤ bottom - top ∧ bottom - top ≤ 300) ∧ gs.Nodup := by
    simp [stageAddValid, stageOk_iff, inRange, and_assoc]
  rw [asked, depth]
  simp only [and_assoc]

/-! ### Gauge fields (R116, R168) -/

theorem gaugeOf_eq_none {g : Nat} (h : 12 ≤ g) : gaugeOf g = none := by simp [gaugeOf]; omega

/-- Gauge numbers in range are read as the gauges they number. -/
theorem gaugesOf_map_val (gs : List GaugeId) : gaugesOf (gs.map (·.val)) = some gs := by
  induction gs with
  | nil => rfl
  | cons g gs ih => simp [gaugesOf, gaugeOf_val, ih]

/-- One gauge number out of range spoils the list. -/
theorem gaugesOf_eq_none {gs : List Nat} (h : ∃ g ∈ gs, 12 ≤ g) : gaugesOf gs = none := by
  induction gs with
  | nil => simp at h
  | cons g gs ih =>
    simp only [List.mem_cons, exists_eq_or_imp] at h
    obtain first | later := h
    · simp [gaugesOf, gaugeOf_eq_none first]
    · simp [gaugesOf, ih later]

/-! ### Records and map entries (R115, R119) -/

theorem StageRecord.isFor_eq (r : StageRecord) : r.isFor hole k = decide (r.hole = hole ∧ r.stage = k) := by
  rw [StageRecord.isFor, Bool.eq_iff_iff, Bool.and_eq_true, beq_iff_eq, beq_iff_eq, decide_eq_true_iff]

theorem StageRecord.seatedOnAny_iff (r : StageRecord) : r.seatedOnAny = true ↔ ∃ n, r.status = .seatedOn n := by
  unfold StageRecord.seatedOnAny
  cases r.status <;> simp

/-- The completion map has an entry for the hole (R119). -/
def State.Mapped (s : State) (hole : Tag) : Prop := ∃ e ∈ s.holes, e.hole = hole

theorem State.holeEntry_isSome_iff : (s.holeEntry hole).isSome = true ↔ s.Mapped hole := by
  simp [State.holeEntry, State.Mapped]

/-- The check for a missing map entry passes exactly where the hole has one. -/
theorem State.holeEntryCheck_iff : (s.holeEntry hole).isNone = false ↔ s.Mapped hole := by
  simp [← s.holeEntry_isSome_iff hole]

/-- The book has no room for a record, or the map none for a new hole (R116). -/
def State.BookOrMapFull (s : State) (hole : Tag) : Prop :=
  48 ≤ s.book.length ∨ (¬s.Mapped hole ∧ 16 ≤ s.holes.length)

theorem State.bookOrMapFull_iff :
    (decide (Config.bookCap ≤ s.book.length) || ((s.holeEntry hole).isNone && decide (Config.mapCap ≤ s.holes.length))) = true ↔
      s.BookOrMapFull hole := by
  have absent : (s.holeEntry hole).isNone = true ↔ ¬s.Mapped hole := by
    rw [← s.holeEntryCheck_iff hole, Bool.not_eq_false]
  simp only [Bool.or_eq_true, Bool.and_eq_true, decide_eq_true_eq, absent]
  rfl

/-- What STAGE ADD does to the map: a hole that has an entry keeps the map as it is, another gets one at its end. -/
theorem State.stageAdd_holes (top bottom : Nat) (gs : List GaugeId) :
    (s.Mapped hole → (s.stageAdd hole k top bottom gs).holes = s.holes) ∧
    (¬s.Mapped hole → (s.stageAdd hole k top bottom gs).holes = s.holes ++ [⟨hole, Vector.replicate 20 false⟩]) := by
  rw [← s.holeEntry_isSome_iff hole]
  exact ⟨fun mapped => if_pos mapped, fun unmapped => if_neg unmapped⟩

/-! ### The order of checks -/

/-- The outcomes of an order with three checks, in the order of the checks: `ok` and `found` are what the first two ask, and
`barred` is what the third refuses. -/
theorem State.judge_three {a b c : Bool} {p q r : Reason} {t : State} {ok found barred : Prop}
    (ha : a = false ↔ ok) (hb : b = false ↔ found) (hc : c = true ↔ barred) :
    let order := s.judge [(a, p), (b, q), (c, r)] t
    (¬ok → order = s.refuse p) ∧ (ok → ¬found → order = s.refuse q) ∧
    (ok → found → barred → order = s.refuse r) ∧ (ok → found → ¬barred → order = t.answer (.ok [])) := by
  simp only [← ha, ← hb, ← hc, Bool.not_eq_false, Bool.not_eq_true]
  refine ⟨?first, ?second, ?third, ?taken⟩
  case first => rintro rfl; rfl
  case second => rintro rfl rfl; rfl
  case third => rintro rfl rfl rfl; rfl
  case taken => rintro rfl rfl rfl; rfl

/-! ### The orders -/

/-- STAGE ADD with gauge numbers in range is judged by its three checks. -/
theorem exec_stageAdd (top bottom : Nat) {gs : List GaugeId} (two : gs.length ≤ 2) :
    exec (.stageAdd hole k top bottom (gs.map (·.val))) s = .next
      (s.judge [(!stageAddValid hole k top bottom gs, .range), ((s.record hole k).isSome, .exists),
          (decide (Config.bookCap ≤ s.book.length) || ((s.holeEntry hole).isNone && decide (Config.mapCap ≤ s.holes.length)), .full)]
        (s.stageAdd hole k top bottom gs)) := by
  have form : ¬2 < (gs.map (·.val)).length := by simpa using two
  have taken : exec (.stageAdd hole k top bottom (gs.map (·.val))) s =
      .next (orderStageAdd hole k top bottom (gs.map (·.val)) s) := rfl
  rw [taken, orderStageAdd, if_neg form, gaugesOf_map_val, s.withIndex_some]

/-- STAGE ADD with a gauge number out of range is refused. -/
theorem exec_stageAdd_of_no_gauge (top bottom : Nat) {gs : List Nat} (two : gs.length ≤ 2) (h : ∃ g ∈ gs, 12 ≤ g) :
    exec (.stageAdd hole k top bottom gs) s = .next (s.refuse .range) := by
  have taken : exec (.stageAdd hole k top bottom gs) s = .next (orderStageAdd hole k top bottom gs s) := rfl
  rw [taken, orderStageAdd, if_neg (Nat.not_lt.2 two), gaugesOf_eq_none h, s.withIndex_none]

theorem exec_stageDrop : exec (.stageDrop hole k) s = .next
    (s.judge [(!holeTagOk hole || !stageOk k, .range), ((s.record hole k).isNone, .absent),
        ((s.record hole k).any StageRecord.seatedOnAny, .state)]
      { s with book := s.book.filter fun q => !decide (q.hole = hole ∧ q.stage = k) }) := by
  simp only [← StageRecord.isFor_eq]
  rfl

theorem exec_holeClear : exec (.holeClear hole) s = .next
    (s.judge [(!holeTagOk hole, .range), ((s.holeEntry hole).isNone, .absent), (s.book.any (fun r => r.hole == hole), .busy)]
      { s with holes := s.holes.filter fun e => !decide (e.hole = hole) }) := by
  have kept : (fun e : HoleEntry => !decide (e.hole = hole)) = fun e => e.hole != hole :=
    funext fun e => by rw [bne, Bool.beq_eq_decide_eq]
  rw [kept]
  rfl

theorem exec_map_of_not_tag (h : holeTagOk hole = false) : exec (.map hole) s = .next (s.refuse .range) := by
  have taken : exec (.map hole) s = .next (orderMap hole s) := rfl
  simp [taken, orderMap, h]

/-! ### What each order refuses, adds and removes -/

/-- STAGE ADD by the order of its checks (R116). -/
theorem stageAdd_outcomes (top bottom : Nat) {gs : List GaugeId} (two : gs.length ≤ 2) :
    let add := exec (.stageAdd hole k top bottom (gs.map (·.val))) s
    let fields := holeTagOk hole = true ∧ (1 ≤ k ∧ k ≤ 20) ∧ bottom ≤ 2000 ∧ top + 10 ≤ bottom ∧ bottom ≤ top + 300 ∧ gs.Nodup
    (¬fields → add = .next (s.refuse .range)) ∧
    (fields → s.record hole k ≠ none → add = .next (s.refuse .exists)) ∧
    (fields → s.record hole k = none → s.BookOrMapFull hole → add = .next (s.refuse .full)) ∧
    (fields → s.record hole k = none → ¬s.BookOrMapFull hole →
      add = .next ((s.stageAdd hole k top bottom gs).answer (.ok []))) := by
  simp only [exec_stageAdd s hole k top bottom two, Host.Outcome.next.injEq]
  have absent : (s.record hole k).isSome = false ↔ s.record hole k = none := by simp
  exact s.judge_three (stageAddRangeCheck_iff hole k top bottom gs) absent (s.bookOrMapFull_iff hole)

/-- STAGE DROP by the order of its checks (R117). -/
theorem stageDrop_outcomes :
    let drop := exec (.stageDrop hole k) s
    let fields := holeTagOk hole = true ∧ 1 ≤ k ∧ k ≤ 20
    let seated := ∃ r n, s.record hole k = some r ∧ r.status = .seatedOn n
    (¬fields → drop = .next (s.refuse .range)) ∧ (fields → ¬s.record hole k ≠ none → drop = .next (s.refuse .absent)) ∧
    (fields → s.record hole k ≠ none → seated → drop = .next (s.refuse .state)) ∧
    (fields → s.record hole k ≠ none → ¬seated → drop =
      .next ({ s with book := s.book.filter fun q => !(q.hole = hole ∧ q.stage = k) }.answer (.ok []))) := by
  have found : (s.record hole k).isNone = false ↔ s.record hole k ≠ none := by simp [Option.isSome_iff_ne_none]
  have seated : (s.record hole k).any StageRecord.seatedOnAny = true ↔
      ∃ r n, s.record hole k = some r ∧ r.status = .seatedOn n := by
    simp [Option.any_eq_true, StageRecord.seatedOnAny_iff]
  simp only [exec_stageDrop, Host.Outcome.next.injEq]
  exact s.judge_three (stageRangeCheck_iff hole k) found seated

/-- HOLE CLEAR by the order of its checks (R120). -/
theorem holeClear_outcomes :
    let clear := exec (.holeClear hole) s
    (¬holeTagOk hole = true → clear = .next (s.refuse .range)) ∧
    (holeTagOk hole = true → ¬s.Mapped hole → clear = .next (s.refuse .absent)) ∧
    (holeTagOk hole = true → s.Mapped hole → (∃ r ∈ s.book, r.hole = hole) → clear = .next (s.refuse .busy)) ∧
    (holeTagOk hole = true → s.Mapped hole → ¬(∃ r ∈ s.book, r.hole = hole) → clear =
      .next ({ s with holes := s.holes.filter fun e => !(e.hole = hole) }.answer (.ok []))) := by
  have range : (!holeTagOk hole) = false ↔ holeTagOk hole = true := by simp
  have used : s.book.any (fun r => r.hole == hole) = true ↔ ∃ r ∈ s.book, r.hole = hole := by simp
  simp only [exec_holeClear, Host.Outcome.next.injEq]
  exact s.judge_three range (s.holeEntryCheck_iff hole) used

/-! ### The obligation -/

/-- Settles O32: the outcomes of the three orders by the order of their checks, with what STAGE ADD does to the map, and the
meaning of a hole tag. -/
theorem stageRecordsComeAndGo : Obligations.StageRecordsComeAndGo := by
  refine ⟨?add, holeTagOk_iff, fun hole k s => (stageDrop_outcomes s hole k).1, ?badTag, ?removing⟩
  case add =>
    intro hole k top bottom gs s two add fields mapped full
    obtain ⟨range, present, noRoom, taken⟩ := stageAdd_outcomes s hole k top bottom two
    obtain ⟨keptMap, newEntry⟩ := s.stageAdd_holes hole k top bottom gs
    exact ⟨fun _ twoFields outside => exec_stageAdd_of_no_gauge s hole k top bottom twoFields outside, range, present, noRoom,
      fun ok absent room => ⟨s.stageAdd hole k top bottom gs, taken ok absent room, rfl, keptMap, newEntry, rfl⟩⟩
  case badTag =>
    intro hole s bad
    obtain ⟨range, -⟩ := holeClear_outcomes s hole
    exact ⟨range (by simp [bad]), exec_map_of_not_tag s hole bad⟩
  case removing =>
    intro hole k s tag low high
    obtain ⟨-, dropAbsent, dropSeated, dropTaken⟩ := stageDrop_outcomes s hole k
    obtain ⟨-, clearAbsent, clearBusy, clearTaken⟩ := holeClear_outcomes s hole
    have stage := And.intro tag (And.intro low high)
    refine ⟨fun absent => dropAbsent stage fun present => present absent,
      fun r n found seated => dropSeated stage (by simp [found]) ⟨r, n, found, seated⟩,
      fun r found free => dropTaken stage (by simp [found]) ?notSeated,
      fun unmapped => clearAbsent tag fun ⟨e, he, same⟩ => unmapped e he same, clearBusy tag,
      fun mapped unused => clearTaken tag mapped fun ⟨r, hr, same⟩ => unused r hr same⟩
    case notSeated =>
      rintro ⟨q, n, alsoFound, seated⟩
      obtain rfl : r = q := Option.some.inj (found.symm.trans alsoFound)
      exact free n seated

end Sys2Proof.Machine
end

section
/-! UPLIFT CLEAR (R136): the meaning of its check, the gauge that it leaves, and the orders that name no gauge (R168). -/

namespace Sys2Proof.Machine

variable (s : State) (g : GaugeId)

/-! ### The check -/

/-- An alarm can be cleared exactly under the three conditions of R136. -/
theorem Gauge.clearable_iff (q : Gauge) :
    q.clearable = true ↔ q.state = .alarm ∧ q.heave - q.baseline < (q.warn : Int) - q.hyst ∧ q.faults = 0 := by
  simp only [Gauge.clearable, Bool.and_eq_true, beq_iff_eq, decide_eq_true_eq, and_assoc]
  rfl

/-! ### The gauge that is left -/

/-- A gauge has no watcher exactly where no line watches it (R132). -/
theorem State.watchers_eq_nil_iff : s.watchers g = [] ↔ ∀ n, g ∉ (s.line n).watched := by
  simp [List.eq_nil_iff_forall_not_mem]

theorem State.gauge_upliftClear_of_watched (h : ∃ n, g ∈ (s.line n).watched) :
    (s.upliftClear g).gauge g = { s.gauge g with state := .watch } := by
  have watched : s.watchers g ≠ [] := fun empty => h.elim ((s.watchers_eq_nil_iff g).1 empty)
  simp [State.upliftClear, watched]

theorem State.gauge_upliftClear_of_unwatched (h : ∀ n, g ∉ (s.line n).watched) :
    (s.upliftClear g).gauge g = { s.gauge g with state := .idle } := by
  simp [State.upliftClear, (s.watchers_eq_nil_iff g).2 h]

theorem State.gauge_upliftClear_of_ne {g h : GaugeId} (apart : h ≠ g) : (s.upliftClear g).gauge h = s.gauge h := by
  simp [State.upliftClear, State.gauge_updGauge, apart]

/-! ### The orders -/

/-- UPLIFT CLEAR of a gauge is judged by its one check. -/
theorem exec_upliftClear :
    exec (.upliftClear g) s = .next (s.judge [(!(s.gauge g).clearable, .state)] (s.upliftClear g)) := by
  have taken : exec (.upliftClear g) s = .next (orderUpliftClear g s) := rfl
  rw [taken, orderUpliftClear, gaugeOf_val, s.withIndex_some]

theorem exec_upliftClear_of_not_clearable (h : (s.gauge g).clearable = false) :
    exec (.upliftClear g) s = .next (s.refuse .state) := by
  rw [exec_upliftClear, h]
  rfl

theorem exec_upliftClear_of_clearable (h : (s.gauge g).clearable = true) :
    exec (.upliftClear g) s = .next ((s.upliftClear g).answer (.ok [])) := by
  rw [exec_upliftClear, h]
  rfl

theorem exec_upliftClear_of_no_gauge {g : Nat} (h : 12 ≤ g) : exec (.upliftClear g) s = .next (s.refuse .range) := by
  have taken : exec (.upliftClear g) s = .next (orderUpliftClear g s) := rfl
  rw [taken, orderUpliftClear, gaugeOf_eq_none h, s.withIndex_none]

theorem exec_gauge_of_no_gauge {g : Nat} (h : 12 ≤ g) : exec (.gauge g) s = .next (s.refuse .range) := by
  have taken : exec (.gauge g) s = .next (orderGauge g s) := rfl
  rw [taken, orderGauge, gaugeOf_eq_none h, s.withIndex_none]

/-! ### The obligation -/

/-- Settles O36: the check of UPLIFT CLEAR is read as the statement writes it, and the state it leaves by the lemmas about
`State.upliftClear`; the event and the frame hold by its definition. -/
theorem upliftClearEndsAnAlarm : Obligations.UpliftClearEndsAnAlarm := by
  intro g s q clear
  have clearable : (s.gauge g).clearable = true ↔ clear := (s.gauge g).clearable_iff
  refine ⟨fun barred => ?refused, fun allowed => ?taken, fun g' outside => ?noGauge⟩
  case refused =>
    exact exec_upliftClear_of_not_clearable s g (Bool.eq_false_iff.2 fun passes => barred (clearable.1 passes))
  case taken =>
    exact ⟨s.upliftClear g, exec_upliftClear_of_clearable s g (clearable.2 allowed), s.gauge_upliftClear_of_watched g,
      s.gauge_upliftClear_of_unwatched g, fun _ apart => s.gauge_upliftClear_of_ne apart, rfl, rfl⟩
  case noGauge =>
    exact ⟨exec_upliftClear_of_no_gauge s outside, exec_gauge_of_no_gauge s outside⟩

end Sys2Proof.Machine
end

section
/-! TAKE (R175, R181): which pending result is next, the state that moving it leaves, and the answer. -/

namespace Sys2Proof.Machine

variable (s : State) {n : LineId} {q r : StageResult} {rs : List StageResult}

/-! ### The next pending result -/

/-- The choice between the best line so far and one more line, of which `State.nextPending` is the fold. -/
def State.pickPending (best : Option LineId) (n : LineId) : Option LineId :=
  match (s.line n).pendingResult, best with
  | none, _ => best
  | some _, none => some n
  | some r, some m =>
    match (s.line m).pendingResult with
    | some q => if r.endClock.toNat < q.endClock.toNat then some n else best
    | none => some n

theorem State.nextPending_eq_foldl : s.nextPending = allLines.foldl s.pickPending none := rfl

/-- Where the lines of `best` hold no pending result but later ones than `q`. -/
def State.LaterThan (q : StageResult) (best : Option LineId) : Prop :=
  ∀ m ∈ best, ∀ p, (s.line m).pendingResult = some p → q.endClock.toNat < p.endClock.toNat

/-- `q` of line `n` is the lowest pending result in end clock and then in line (R181). -/
def State.IsNextPending (n : LineId) (q : StageResult) : Prop :=
  (s.line n).pendingResult = some q ∧ ∀ m p, (s.line m).pendingResult = some p →
    q.endClock.toNat < p.endClock.toNat ∨ (q.endClock = p.endClock ∧ n ≤ m)

theorem State.pickPending_of_none {x : LineId} (best : Option LineId) (h : (s.line x).pendingResult = none) :
    s.pickPending best x = best := by
  simp only [State.pickPending, h]

theorem State.pickPending_cases (best : Option LineId) (x : LineId) :
    s.pickPending best x = best ∨ s.pickPending best x = some x := by
  unfold State.pickPending
  split
  case h_1 => exact .inl rfl
  case h_2 => exact .inr rfl
  case h_3 =>
    split
    case h_1 =>
      split
      case isTrue => exact .inr rfl
      case isFalse => exact .inl rfl
    case h_2 => exact .inr rfl

/-- A line replaces a best line whose result is later. -/
theorem State.pickPending_of_later {best : Option LineId} (hq : (s.line n).pendingResult = some q)
    (later : s.LaterThan q best) : s.pickPending best n = some n := by
  cases best with
  | none => simp only [State.pickPending, hq]
  | some m =>
    cases hm : (s.line m).pendingResult with
    | none => simp only [State.pickPending, hq, hm]
    | some p => simp only [State.pickPending, hq, hm, if_pos (later m rfl p hm)]

/-- A best line stays against a line whose result is no earlier. -/
theorem State.pickPending_of_not_earlier {x : LineId} (hq : (s.line n).pendingResult = some q)
    (first : ∀ p, (s.line x).pendingResult = some p → q.endClock.toNat ≤ p.endClock.toNat) :
    s.pickPending (some n) x = some n := by
  cases hx : (s.line x).pendingResult with
  | none => exact s.pickPending_of_none _ hx
  | some p => simp only [State.pickPending, hq, hx, if_neg (Nat.not_lt.2 (first p hx))]

theorem State.nextPending_of_none (h : ∀ n, (s.line n).pendingResult = none) : s.nextPending = none := by
  rw [s.nextPending_eq_foldl]
  refine List.foldlRecOn (motive := (· = none)) _ _ rfl fun best unset x _ => ?_
  rw [s.pickPending_of_none best (h x), unset]

/-- The lines below `n` leave a later best line or none, `n` replaces it, and the lines above `n` leave `n`. -/
theorem State.nextPending_of_isNextPending (next : s.IsNextPending n q) : s.nextPending = some n := by
  obtain ⟨hq, lowest⟩ := next
  obtain ⟨below, above, split⟩ := List.append_of_mem (mem_allLines n)
  have increasing : (below ++ n :: above).Pairwise (· < ·) := split ▸ (by decide : allLines.Pairwise (· < ·))
  have beneath : ∀ x ∈ below, x < n := fun x hx => (List.pairwise_append.1 increasing).2.2 x hx n List.mem_cons_self
  have later : s.LaterThan q (below.foldl s.pickPending none) := by
    refine List.foldlRecOn (motive := s.LaterThan q) _ _ (fun _ unset => nomatch unset) fun best later x hx => ?_
    rcases s.pickPending_cases best x with kept | taken
    · rwa [kept]
    · rw [taken]
      rintro m ⟨rfl⟩ p hp
      exact (lowest x p hp).resolve_right fun tie => absurd (beneath x hx) (Fin.not_lt.2 tie.2)
  have stays : above.foldl s.pickPending (some n) = some n := by
    refine List.foldlRecOn (motive := (· = some n)) _ _ rfl fun best kept x _ => ?_
    rw [kept]
    refine s.pickPending_of_not_earlier hq fun p hp => ?_
    rcases lowest x p hp with earlier | ⟨tie, -⟩
    · exact Nat.le_of_lt earlier
    · exact Nat.le_of_eq (congrArg _ tie)
  rw [s.nextPending_eq_foldl, split, List.foldl_append, List.foldl_cons, s.pickPending_of_later hq later, stays]

/-! ### Moving it into the queue -/

theorem State.movePending_of_none (h : ∀ n, (s.line n).pendingResult = none) : s.movePending = s := by
  simp only [State.movePending, s.nextPending_of_none h]

theorem State.movePending_of_isNextPending (next : s.IsNextPending n q) : s.movePending =
    { s with results := s.results ++ [q] }.updLine n fun l => { l with pendingResult := none } := by
  simp only [State.movePending, s.nextPending_of_isNextPending next, next.1]

/-! ### The order -/

/-- TAKE is one word with no field (R167). -/
theorem orderOf_take_of_field (f : Text) (fs : List Text) : orderOf (['T', 'A', 'K', 'E'] :: f :: fs) = .error .form := rfl

theorem exec_take_of_nil (h : s.results = []) : exec .take s = .next (s.refuse .empty) := by
  have taken : exec .take s = .next (orderTake s) := rfl
  rw [taken, orderTake, h]

theorem exec_take_of_cons (h : s.results = r :: rs) :
    exec .take s = .next ({ s with results := rs }.movePending.answer (.ok (resultFields r))) := by
  have taken : exec .take s = .next (orderTake s) := rfl
  simp only [taken, orderTake, h, State.judge_nil]

theorem exec_take_of_no_pending (h : s.results = r :: rs) (unset : ∀ n, (s.line n).pendingResult = none) :
    exec .take s = .next ({ s with results := rs }.answer (.ok (resultFields r))) := by
  have kept : { s with results := rs }.movePending = { s with results := rs } := State.movePending_of_none _ unset
  rw [exec_take_of_cons s h, kept]

theorem exec_take_of_isNextPending (h : s.results = r :: rs) (next : s.IsNextPending n q) :
    exec .take s = .next (({ s with results := rs ++ [q] }.updLine n fun l => { l with pendingResult := none }).answer
      (.ok (resultFields r))) := by
  have moved : { s with results := rs }.movePending =
      { s with results := rs ++ [q] }.updLine n fun l => { l with pendingResult := none } :=
    State.movePending_of_isNextPending _ next
  rw [exec_take_of_cons s h, moved]

/-! ### The obligation -/

/-- Settles O34: the queue's head is answered, and what joins the tail is the pending result that `State.nextPending` finds. -/
theorem takeRemovesTheOldestResult : Obligations.TakeRemovesTheOldestResult := by
  intro s shown
  refine ⟨orderOf_take_of_field, exec_take_of_nil s, fun r rs head unset => exec_take_of_no_pending s head unset,
    fun r rs n q head hq lowest => ⟨_, exec_take_of_isNextPending s head ⟨hq, lowest⟩, rfl, ?emptied, ?others, rfl⟩⟩
  case emptied => exact State.line_updLine_same ..
  case others => exact fun m apart => State.line_updLine_of_ne _ apart _

end Sys2Proof.Machine
end

section
/-! Event holds and POLL (R173, R174): what an arrival leaves of the hold it comes to and of the others, and the answer. -/

namespace Sys2Proof.Machine

variable (s : State)

/-! ### Arrivals -/

theorem Hold.place_of_room {cap : Nat} {h : Hold} (room : h.entries.length < cap) (e : Event) :
    h.place cap e = { h with entries := h.entries ++ [e] } :=
  ((Hold.place_cases cap e h).resolve_right fun full => absurd room (Nat.not_lt.2 full.1)).2

theorem Hold.place_of_full {cap : Nat} {h : Hold} (full : cap ≤ h.entries.length) (e : Event) :
    h.place cap e = { h with overflow := true } :=
  ((Hold.place_cases cap e h).resolve_left fun room => absurd room.1 (Nat.not_lt.2 full)).2

theorem State.lineEvent_lineHolds_same (n : LineId) (k : EventKind) (v w : Option EventValue) :
    (s.lineEvent n k v w).lineHolds[n] =
      s.lineHolds[n].place Config.lineHoldCap ⟨k, s.clock, some (.line n), v, w⟩ :=
  Vector.getElem_set_self _

theorem State.lineEvent_lineHolds_of_ne {n m : LineId} (apart : m ≠ n) (k : EventKind) (v w : Option EventValue) :
    (s.lineEvent n k v w).lineHolds[m] = s.lineHolds[m] :=
  Vector.getElem_set_ne n.isLt m.isLt fun same => apart (Fin.ext same.symm)

theorem State.plantEvent_of_place {k : EventKind} {j : Option Subject} {v w : Option EventValue} {h : Hold}
    (placed : s.plantHold.place Config.plantHoldCap ⟨k, s.clock, j, v, w⟩ = h) :
    s.plantEvent k j v w = { s with plantHold := h } := by
  rw [State.plantEvent, placed]

/-! ### POLL -/

/-- POLL answers with the hold it names and empties it. -/
theorem exec_poll_some (h : HoldName) :
    exec (.poll (some h)) s = .next ((s.clearHold h).answer (.ok (s.pollReply h))) := rfl

/-- A field that names no hold is out of its numbering (R168). -/
theorem exec_poll_none : exec (.poll none) s = .next (s.refuse .range) := rfl

/-! ### The obligation -/

/-- Settles O20: POLL by its two equations, and each arrival by whether the hold has room. -/
theorem holdsArePlacedAndPolled : Obligations.HoldsArePlacedAndPolled := by
  intro s
  refine ⟨fun n => exec_poll_some s (.line n), exec_poll_some s .plant, exec_poll_none s,
    fun n k v w => ⟨s.lineEvent n k v w, rfl, rfl, fun m apart => s.lineEvent_lineHolds_of_ne apart k v w, ?lineRoom,
      ?lineFull⟩,
    fun k j v w => ⟨?plantRoom, ?plantFull⟩⟩
  case lineRoom => exact fun room => (s.lineEvent_lineHolds_same n k v w).trans (Hold.place_of_room room _)
  case lineFull => exact fun full => (s.lineEvent_lineHolds_same n k v w).trans (Hold.place_of_full full _)
  case plantRoom => exact fun room => s.plantEvent_of_place (Hold.place_of_room room _)
  case plantFull => exact fun full => s.plantEvent_of_place (Hold.place_of_full full _)

end Sys2Proof.Machine
end
